-- ==== Sys2Proof/Word.lean ====
section
/-! DEFINITION. The word types of the machine and their plainest arithmetic: u8 and u16 of
spec/00_scope.md rule R6. -/

namespace Sys2Proof

/-- `u8` of rule R6: the unit of memory and of the registers SP, SR, A, X, Y. -/
abbrev Byte := BitVec 8

/-- `u16` of rule R6: the program counter and every address. -/
abbrev Word := BitVec 16

/-- `lo(w) = w[7:0]` of rule R6. -/
def Word.lo (w : Word) : Byte := w.extractLsb' 0 8

/-- `hi(w) = w[15:8]` of rule R6. -/
def Word.hi (w : Word) : Byte := w.extractLsb' 8 8

/-- `{h, l} = h * 256 + l` of rule R6. -/
def Word.ofBytes (h l : Byte) : Word := h ++ l

/-- `zext_16(b)` of rule R6. -/
def Byte.zext (b : Byte) : Word := b.setWidth 16

/-- `sext_16(b)` of rule R6: the u16 whose signed value is `b - 256` where `b[7] = 1`. -/
def Byte.sext (b : Byte) : Word := b.signExtend 16

end Sys2Proof
end

