-- ==== Sys2Proof/Config.lean ====
section
/-! DEFINITION. What one build of the block fixes and the spec leaves open. -/

namespace Sys2Proof

/-- The open parameter `UNK_PC_BUMP` (spec/00_scope.md rule R5, spec/60_exceptions.md rule R241,
spec/92_eei_decisions.md D8): whether PC holds the opcode's address + 1 (`true`) or the opcode's
address (`false`) after an `UnknownOpcode` fault. It has no body: a claim holds for both values
(notes/assumptions/3.md). -/
opaque Config.unkPcBump : Bool

/-- The parameter `RAM_RESET` (spec/00_scope.md rule R5): the content of every memory byte after
`reset`, the value the spec takes in spec/10_state.md rule R43 (notes/assumptions/1.md). -/
def Config.ramReset : Byte := 0x00#8

end Sys2Proof
end

