-- ==== Sys2Proof/Syntax.lean ====
section
/-! DEFINITION. The instructions: one constructor of `Instr` for each of the 151 defined rows of the
opcode table (spec/30_encoding.md rule R88, spec/opcode_table.json), with the operand bytes of its
format as arguments. -/

namespace Sys2Proof

/-- The thirteen addressing modes, by the names of spec/30_encoding.md rule R85. -/
inductive Mode where
  | implied
  | accumulator
  | immediate
  | zeroPage
  | zeroPageX
  | zeroPageY
  | absolute
  | absoluteX
  | absoluteY
  | indirect
  | indirectX
  | indirectY
  | relative
deriving DecidableEq, Repr

/-- The 56 mnemonics of spec/30_encoding.md rule R86. -/
inductive Mnemonic where
  | lda | ldx | ldy | sta | stx | sty | adc | sbc
  | and | ora | eor | asl | lsr | rol | ror | inc
  | dec | inx | iny | dex | dey | tax | tay | txa
  | tya | tsx | txs | bit | cmp | cpx | cpy | bcc
  | bcs | beq | bne | bmi | bpl | bvc | bvs | clc
  | sec | cld | sed | cli | sei | clv | brk | jmp
  | jsr | rts | rti | pha | php | pla | plp | nop
deriving DecidableEq, Repr

/-- An addressing mode together with the operand bytes the instruction carries for it
(spec/30_encoding.md rules R81, R82): `n` is the single operand byte of format F2, `w` the operand
word `{h, l}` of format F3. -/
inductive Form where
  | implied
  | accumulator
  | immediate (n : Byte)
  | zeroPage (n : Byte)
  | zeroPageX (n : Byte)
  | zeroPageY (n : Byte)
  | absolute (w : Word)
  | absoluteX (w : Word)
  | absoluteY (w : Word)
  | indirect (w : Word)
  /-- `(indirect,X)` -/
  | indirectX (n : Byte)
  /-- `(indirect),Y` -/
  | indirectY (n : Byte)
  | relative (n : Byte)
deriving DecidableEq, Repr

/-- One slot of the opcode table: the record `(mnemonic, base_cycles, byte_count, addressing_mode)`
of spec/30_encoding.md rule R80, with the opcode that selects it. -/
structure OpRow where
  opcode   : Byte
  mnemonic : Mnemonic
  mode     : Mode
  length   : Nat
  base     : Nat
deriving DecidableEq, Repr

/-- The 151 instructions of spec/30_encoding.md rule R88, grouped by mnemonic. An implied or
relative form carries no suffix, every other form the name of its mode. -/
inductive Instr where
  -- LDA, rule R140
  | ldaImmediate (n : Byte)
  | ldaZeroPage (n : Byte)
  | ldaZeroPageX (n : Byte)
  | ldaAbsolute (w : Word)
  | ldaAbsoluteX (w : Word)
  | ldaAbsoluteY (w : Word)
  | ldaIndirectX (n : Byte)
  | ldaIndirectY (n : Byte)
  -- LDX, rule R142
  | ldxImmediate (n : Byte)
  | ldxZeroPage (n : Byte)
  | ldxZeroPageY (n : Byte)
  | ldxAbsolute (w : Word)
  | ldxAbsoluteY (w : Word)
  -- LDY, rule R143
  | ldyImmediate (n : Byte)
  | ldyZeroPage (n : Byte)
  | ldyZeroPageX (n : Byte)
  | ldyAbsolute (w : Word)
  | ldyAbsoluteX (w : Word)
  -- STA, rule R141
  | staZeroPage (n : Byte)
  | staZeroPageX (n : Byte)
  | staAbsolute (w : Word)
  | staAbsoluteX (w : Word)
  | staAbsoluteY (w : Word)
  | staIndirectX (n : Byte)
  | staIndirectY (n : Byte)
  -- STX, rule R144
  | stxZeroPage (n : Byte)
  | stxZeroPageY (n : Byte)
  | stxAbsolute (w : Word)
  -- STY, rule R145
  | styZeroPage (n : Byte)
  | styZeroPageX (n : Byte)
  | styAbsolute (w : Word)
  -- ADC, rule R150
  | adcImmediate (n : Byte)
  | adcZeroPage (n : Byte)
  | adcZeroPageX (n : Byte)
  | adcAbsolute (w : Word)
  | adcAbsoluteX (w : Word)
  | adcAbsoluteY (w : Word)
  | adcIndirectX (n : Byte)
  | adcIndirectY (n : Byte)
  -- SBC, rule R151
  | sbcImmediate (n : Byte)
  | sbcZeroPage (n : Byte)
  | sbcZeroPageX (n : Byte)
  | sbcAbsolute (w : Word)
  | sbcAbsoluteX (w : Word)
  | sbcAbsoluteY (w : Word)
  | sbcIndirectX (n : Byte)
  | sbcIndirectY (n : Byte)
  -- AND, rule R152
  | andImmediate (n : Byte)
  | andZeroPage (n : Byte)
  | andZeroPageX (n : Byte)
  | andAbsolute (w : Word)
  | andAbsoluteX (w : Word)
  | andAbsoluteY (w : Word)
  | andIndirectX (n : Byte)
  | andIndirectY (n : Byte)
  -- ORA, rule R153
  | oraImmediate (n : Byte)
  | oraZeroPage (n : Byte)
  | oraZeroPageX (n : Byte)
  | oraAbsolute (w : Word)
  | oraAbsoluteX (w : Word)
  | oraAbsoluteY (w : Word)
  | oraIndirectX (n : Byte)
  | oraIndirectY (n : Byte)
  -- EOR, rule R154
  | eorImmediate (n : Byte)
  | eorZeroPage (n : Byte)
  | eorZeroPageX (n : Byte)
  | eorAbsolute (w : Word)
  | eorAbsoluteX (w : Word)
  | eorAbsoluteY (w : Word)
  | eorIndirectX (n : Byte)
  | eorIndirectY (n : Byte)
  -- ASL, rule R160
  | aslAccumulator
  | aslZeroPage (n : Byte)
  | aslZeroPageX (n : Byte)
  | aslAbsolute (w : Word)
  | aslAbsoluteX (w : Word)
  -- LSR, rule R161
  | lsrAccumulator
  | lsrZeroPage (n : Byte)
  | lsrZeroPageX (n : Byte)
  | lsrAbsolute (w : Word)
  | lsrAbsoluteX (w : Word)
  -- ROL, rule R162
  | rolAccumulator
  | rolZeroPage (n : Byte)
  | rolZeroPageX (n : Byte)
  | rolAbsolute (w : Word)
  | rolAbsoluteX (w : Word)
  -- ROR, rule R163
  | rorAccumulator
  | rorZeroPage (n : Byte)
  | rorZeroPageX (n : Byte)
  | rorAbsolute (w : Word)
  | rorAbsoluteX (w : Word)
  -- INC, rule R170
  | incZeroPage (n : Byte)
  | incZeroPageX (n : Byte)
  | incAbsolute (w : Word)
  | incAbsoluteX (w : Word)
  -- DEC, rule R171
  | decZeroPage (n : Byte)
  | decZeroPageX (n : Byte)
  | decAbsolute (w : Word)
  | decAbsoluteX (w : Word)
  -- INX, rule R172
  | inx
  -- INY, rule R173
  | iny
  -- DEX, rule R174
  | dex
  -- DEY, rule R175
  | dey
  -- TAX, rule R180
  | tax
  -- TAY, rule R181
  | tay
  -- TXA, rule R182
  | txa
  -- TYA, rule R183
  | tya
  -- TSX, rule R184
  | tsx
  -- TXS, rule R185
  | txs
  -- BIT, rule R190
  | bitZeroPage (n : Byte)
  | bitAbsolute (w : Word)
  -- CMP, rule R191
  | cmpImmediate (n : Byte)
  | cmpZeroPage (n : Byte)
  | cmpZeroPageX (n : Byte)
  | cmpAbsolute (w : Word)
  | cmpAbsoluteX (w : Word)
  | cmpAbsoluteY (w : Word)
  | cmpIndirectX (n : Byte)
  | cmpIndirectY (n : Byte)
  -- CPX, rule R192
  | cpxImmediate (n : Byte)
  | cpxZeroPage (n : Byte)
  | cpxAbsolute (w : Word)
  -- CPY, rule R193
  | cpyImmediate (n : Byte)
  | cpyZeroPage (n : Byte)
  | cpyAbsolute (w : Word)
  -- BCC, rule R201
  | bcc (n : Byte)
  -- BCS, rule R202
  | bcs (n : Byte)
  -- BEQ, rule R203
  | beq (n : Byte)
  -- BNE, rule R204
  | bne (n : Byte)
  -- BMI, rule R205
  | bmi (n : Byte)
  -- BPL, rule R206
  | bpl (n : Byte)
  -- BVC, rule R207
  | bvc (n : Byte)
  -- BVS, rule R208
  | bvs (n : Byte)
  -- CLC, rule R210
  | clc
  -- SEC, rule R211
  | sec
  -- CLD, rule R212
  | cld
  -- SED, rule R213
  | sed
  -- CLI, rule R214
  | cli
  -- SEI, rule R215
  | sei
  -- CLV, rule R216
  | clv
  -- BRK, rule R220
  | brk
  -- JMP, rule R221
  | jmpAbsolute (w : Word)
  | jmpIndirect (w : Word)
  -- JSR, rule R222
  | jsrAbsolute (w : Word)
  -- RTS, rule R223
  | rts
  -- RTI, rule R224
  | rti
  -- PHA, rule R225
  | pha
  -- PHP, rule R226
  | php
  -- PLA, rule R227
  | pla
  -- PLP, rule R228
  | plp
  -- NOP, rule R229
  | nop
deriving DecidableEq, Repr

end Sys2Proof
end

