-- ==== Sys2Proof/Machine/OpTable.lean ====
section
/-! DEFINITION. The opcode table (spec/30_encoding.md rules R87, R88): the row of every instruction
and its operand in the form of its addressing mode. -/

namespace Sys2Proof

/-- The PC-controlling mnemonics of spec/40_driver_and_modes.md rule R108: JMP, JSR, RTS, RTI, BRK
and the eight branches. -/
def Mnemonic.pcControlling : Mnemonic → Bool
  | .bcc | .bcs | .beq | .bne | .bmi | .bpl | .bvc | .bvs => true
  | .brk | .jmp | .jsr | .rts | .rti => true
  | .lda | .ldx | .ldy | .sta | .stx | .sty | .adc | .sbc | .and | .ora | .eor => false
  | .asl | .lsr | .rol | .ror | .inc | .dec | .inx | .iny | .dex | .dey | .tax => false
  | .tay | .txa | .tya | .tsx | .txs | .bit | .cmp | .cpx | .cpy | .clc | .sec => false
  | .cld | .sed | .cli | .sei | .clv | .pha | .php | .pla | .plp | .nop => false

/-- The addressing mode of a form. -/
def Form.mode : Form → Mode
  | .implied => .implied
  | .accumulator => .accumulator
  | .immediate _ => .immediate
  | .zeroPage _ => .zeroPage
  | .zeroPageX _ => .zeroPageX
  | .zeroPageY _ => .zeroPageY
  | .absolute _ => .absolute
  | .absoluteX _ => .absoluteX
  | .absoluteY _ => .absoluteY
  | .indirect _ => .indirect
  | .indirectX _ => .indirectX
  | .indirectY _ => .indirectY
  | .relative _ => .relative

/-- The row of spec/30_encoding.md rule R88 that an instruction stands for: opcode, mnemonic, mode,
length, base cycles. The base cycles are the default of the configuration table `BASE_CYCLES`
(notes/assumptions/2.md). -/
def Instr.row : Instr → OpRow
  | .ldaImmediate _ => ⟨0xA9#8, .lda, .immediate, 2, 2⟩
  | .ldaZeroPage _ => ⟨0xA5#8, .lda, .zeroPage, 2, 3⟩
  | .ldaZeroPageX _ => ⟨0xB5#8, .lda, .zeroPageX, 2, 4⟩
  | .ldaAbsolute _ => ⟨0xAD#8, .lda, .absolute, 3, 4⟩
  | .ldaAbsoluteX _ => ⟨0xBD#8, .lda, .absoluteX, 3, 4⟩
  | .ldaAbsoluteY _ => ⟨0xB9#8, .lda, .absoluteY, 3, 4⟩
  | .ldaIndirectX _ => ⟨0xA1#8, .lda, .indirectX, 2, 6⟩
  | .ldaIndirectY _ => ⟨0xB1#8, .lda, .indirectY, 2, 5⟩
  | .ldxImmediate _ => ⟨0xA2#8, .ldx, .immediate, 2, 2⟩
  | .ldxZeroPage _ => ⟨0xA6#8, .ldx, .zeroPage, 2, 3⟩
  | .ldxZeroPageY _ => ⟨0xB6#8, .ldx, .zeroPageY, 2, 4⟩
  | .ldxAbsolute _ => ⟨0xAE#8, .ldx, .absolute, 3, 4⟩
  | .ldxAbsoluteY _ => ⟨0xBE#8, .ldx, .absoluteY, 3, 4⟩
  | .ldyImmediate _ => ⟨0xA0#8, .ldy, .immediate, 2, 2⟩
  | .ldyZeroPage _ => ⟨0xA4#8, .ldy, .zeroPage, 2, 3⟩
  | .ldyZeroPageX _ => ⟨0xB4#8, .ldy, .zeroPageX, 2, 4⟩
  | .ldyAbsolute _ => ⟨0xAC#8, .ldy, .absolute, 3, 4⟩
  | .ldyAbsoluteX _ => ⟨0xBC#8, .ldy, .absoluteX, 3, 4⟩
  | .staZeroPage _ => ⟨0x85#8, .sta, .zeroPage, 2, 3⟩
  | .staZeroPageX _ => ⟨0x95#8, .sta, .zeroPageX, 2, 4⟩
  | .staAbsolute _ => ⟨0x8D#8, .sta, .absolute, 3, 4⟩
  | .staAbsoluteX _ => ⟨0x9D#8, .sta, .absoluteX, 3, 5⟩
  | .staAbsoluteY _ => ⟨0x99#8, .sta, .absoluteY, 3, 5⟩
  | .staIndirectX _ => ⟨0x81#8, .sta, .indirectX, 2, 6⟩
  | .staIndirectY _ => ⟨0x91#8, .sta, .indirectY, 2, 6⟩
  | .stxZeroPage _ => ⟨0x86#8, .stx, .zeroPage, 2, 3⟩
  | .stxZeroPageY _ => ⟨0x96#8, .stx, .zeroPageY, 2, 4⟩
  | .stxAbsolute _ => ⟨0x8E#8, .stx, .absolute, 3, 4⟩
  | .styZeroPage _ => ⟨0x84#8, .sty, .zeroPage, 2, 3⟩
  | .styZeroPageX _ => ⟨0x94#8, .sty, .zeroPageX, 2, 4⟩
  | .styAbsolute _ => ⟨0x8C#8, .sty, .absolute, 3, 4⟩
  | .adcImmediate _ => ⟨0x69#8, .adc, .immediate, 2, 2⟩
  | .adcZeroPage _ => ⟨0x65#8, .adc, .zeroPage, 2, 3⟩
  | .adcZeroPageX _ => ⟨0x75#8, .adc, .zeroPageX, 2, 4⟩
  | .adcAbsolute _ => ⟨0x6D#8, .adc, .absolute, 3, 4⟩
  | .adcAbsoluteX _ => ⟨0x7D#8, .adc, .absoluteX, 3, 4⟩
  | .adcAbsoluteY _ => ⟨0x79#8, .adc, .absoluteY, 3, 4⟩
  | .adcIndirectX _ => ⟨0x61#8, .adc, .indirectX, 2, 6⟩
  | .adcIndirectY _ => ⟨0x71#8, .adc, .indirectY, 2, 5⟩
  | .sbcImmediate _ => ⟨0xE9#8, .sbc, .immediate, 2, 2⟩
  | .sbcZeroPage _ => ⟨0xE5#8, .sbc, .zeroPage, 2, 3⟩
  | .sbcZeroPageX _ => ⟨0xF5#8, .sbc, .zeroPageX, 2, 4⟩
  | .sbcAbsolute _ => ⟨0xED#8, .sbc, .absolute, 3, 4⟩
  | .sbcAbsoluteX _ => ⟨0xFD#8, .sbc, .absoluteX, 3, 4⟩
  | .sbcAbsoluteY _ => ⟨0xF9#8, .sbc, .absoluteY, 3, 4⟩
  | .sbcIndirectX _ => ⟨0xE1#8, .sbc, .indirectX, 2, 6⟩
  | .sbcIndirectY _ => ⟨0xF1#8, .sbc, .indirectY, 2, 5⟩
  | .andImmediate _ => ⟨0x29#8, .and, .immediate, 2, 2⟩
  | .andZeroPage _ => ⟨0x25#8, .and, .zeroPage, 2, 3⟩
  | .andZeroPageX _ => ⟨0x35#8, .and, .zeroPageX, 2, 4⟩
  | .andAbsolute _ => ⟨0x2D#8, .and, .absolute, 3, 4⟩
  | .andAbsoluteX _ => ⟨0x3D#8, .and, .absoluteX, 3, 4⟩
  | .andAbsoluteY _ => ⟨0x39#8, .and, .absoluteY, 3, 4⟩
  | .andIndirectX _ => ⟨0x21#8, .and, .indirectX, 2, 6⟩
  | .andIndirectY _ => ⟨0x31#8, .and, .indirectY, 2, 5⟩
  | .oraImmediate _ => ⟨0x09#8, .ora, .immediate, 2, 2⟩
  | .oraZeroPage _ => ⟨0x05#8, .ora, .zeroPage, 2, 3⟩
  | .oraZeroPageX _ => ⟨0x15#8, .ora, .zeroPageX, 2, 4⟩
  | .oraAbsolute _ => ⟨0x0D#8, .ora, .absolute, 3, 4⟩
  | .oraAbsoluteX _ => ⟨0x1D#8, .ora, .absoluteX, 3, 4⟩
  | .oraAbsoluteY _ => ⟨0x19#8, .ora, .absoluteY, 3, 4⟩
  | .oraIndirectX _ => ⟨0x01#8, .ora, .indirectX, 2, 6⟩
  | .oraIndirectY _ => ⟨0x11#8, .ora, .indirectY, 2, 5⟩
  | .eorImmediate _ => ⟨0x49#8, .eor, .immediate, 2, 2⟩
  | .eorZeroPage _ => ⟨0x45#8, .eor, .zeroPage, 2, 3⟩
  | .eorZeroPageX _ => ⟨0x55#8, .eor, .zeroPageX, 2, 4⟩
  | .eorAbsolute _ => ⟨0x4D#8, .eor, .absolute, 3, 4⟩
  | .eorAbsoluteX _ => ⟨0x5D#8, .eor, .absoluteX, 3, 4⟩
  | .eorAbsoluteY _ => ⟨0x59#8, .eor, .absoluteY, 3, 4⟩
  | .eorIndirectX _ => ⟨0x41#8, .eor, .indirectX, 2, 6⟩
  | .eorIndirectY _ => ⟨0x51#8, .eor, .indirectY, 2, 5⟩
  | .aslAccumulator => ⟨0x0A#8, .asl, .accumulator, 1, 2⟩
  | .aslZeroPage _ => ⟨0x06#8, .asl, .zeroPage, 2, 5⟩
  | .aslZeroPageX _ => ⟨0x16#8, .asl, .zeroPageX, 2, 6⟩
  | .aslAbsolute _ => ⟨0x0E#8, .asl, .absolute, 3, 6⟩
  | .aslAbsoluteX _ => ⟨0x1E#8, .asl, .absoluteX, 3, 7⟩
  | .lsrAccumulator => ⟨0x4A#8, .lsr, .accumulator, 1, 2⟩
  | .lsrZeroPage _ => ⟨0x46#8, .lsr, .zeroPage, 2, 5⟩
  | .lsrZeroPageX _ => ⟨0x56#8, .lsr, .zeroPageX, 2, 6⟩
  | .lsrAbsolute _ => ⟨0x4E#8, .lsr, .absolute, 3, 6⟩
  | .lsrAbsoluteX _ => ⟨0x5E#8, .lsr, .absoluteX, 3, 7⟩
  | .rolAccumulator => ⟨0x2A#8, .rol, .accumulator, 1, 2⟩
  | .rolZeroPage _ => ⟨0x26#8, .rol, .zeroPage, 2, 5⟩
  | .rolZeroPageX _ => ⟨0x36#8, .rol, .zeroPageX, 2, 6⟩
  | .rolAbsolute _ => ⟨0x2E#8, .rol, .absolute, 3, 6⟩
  | .rolAbsoluteX _ => ⟨0x3E#8, .rol, .absoluteX, 3, 7⟩
  | .rorAccumulator => ⟨0x6A#8, .ror, .accumulator, 1, 2⟩
  | .rorZeroPage _ => ⟨0x66#8, .ror, .zeroPage, 2, 5⟩
  | .rorZeroPageX _ => ⟨0x76#8, .ror, .zeroPageX, 2, 6⟩
  | .rorAbsolute _ => ⟨0x6E#8, .ror, .absolute, 3, 6⟩
  | .rorAbsoluteX _ => ⟨0x7E#8, .ror, .absoluteX, 3, 7⟩
  | .incZeroPage _ => ⟨0xE6#8, .inc, .zeroPage, 2, 5⟩
  | .incZeroPageX _ => ⟨0xF6#8, .inc, .zeroPageX, 2, 6⟩
  | .incAbsolute _ => ⟨0xEE#8, .inc, .absolute, 3, 6⟩
  | .incAbsoluteX _ => ⟨0xFE#8, .inc, .absoluteX, 3, 7⟩
  | .decZeroPage _ => ⟨0xC6#8, .dec, .zeroPage, 2, 5⟩
  | .decZeroPageX _ => ⟨0xD6#8, .dec, .zeroPageX, 2, 6⟩
  | .decAbsolute _ => ⟨0xCE#8, .dec, .absolute, 3, 6⟩
  | .decAbsoluteX _ => ⟨0xDE#8, .dec, .absoluteX, 3, 7⟩
  | .inx => ⟨0xE8#8, .inx, .implied, 1, 2⟩
  | .iny => ⟨0xC8#8, .iny, .implied, 1, 2⟩
  | .dex => ⟨0xCA#8, .dex, .implied, 1, 2⟩
  | .dey => ⟨0x88#8, .dey, .implied, 1, 2⟩
  | .tax => ⟨0xAA#8, .tax, .implied, 1, 2⟩
  | .tay => ⟨0xA8#8, .tay, .implied, 1, 2⟩
  | .txa => ⟨0x8A#8, .txa, .implied, 1, 2⟩
  | .tya => ⟨0x98#8, .tya, .implied, 1, 2⟩
  | .tsx => ⟨0xBA#8, .tsx, .implied, 1, 2⟩
  | .txs => ⟨0x9A#8, .txs, .implied, 1, 2⟩
  | .bitZeroPage _ => ⟨0x24#8, .bit, .zeroPage, 2, 3⟩
  | .bitAbsolute _ => ⟨0x2C#8, .bit, .absolute, 3, 4⟩
  | .cmpImmediate _ => ⟨0xC9#8, .cmp, .immediate, 2, 2⟩
  | .cmpZeroPage _ => ⟨0xC5#8, .cmp, .zeroPage, 2, 3⟩
  | .cmpZeroPageX _ => ⟨0xD5#8, .cmp, .zeroPageX, 2, 4⟩
  | .cmpAbsolute _ => ⟨0xCD#8, .cmp, .absolute, 3, 4⟩
  | .cmpAbsoluteX _ => ⟨0xDD#8, .cmp, .absoluteX, 3, 4⟩
  | .cmpAbsoluteY _ => ⟨0xD9#8, .cmp, .absoluteY, 3, 4⟩
  | .cmpIndirectX _ => ⟨0xC1#8, .cmp, .indirectX, 2, 6⟩
  | .cmpIndirectY _ => ⟨0xD1#8, .cmp, .indirectY, 2, 5⟩
  | .cpxImmediate _ => ⟨0xE0#8, .cpx, .immediate, 2, 2⟩
  | .cpxZeroPage _ => ⟨0xE4#8, .cpx, .zeroPage, 2, 3⟩
  | .cpxAbsolute _ => ⟨0xEC#8, .cpx, .absolute, 3, 4⟩
  | .cpyImmediate _ => ⟨0xC0#8, .cpy, .immediate, 2, 2⟩
  | .cpyZeroPage _ => ⟨0xC4#8, .cpy, .zeroPage, 2, 3⟩
  | .cpyAbsolute _ => ⟨0xCC#8, .cpy, .absolute, 3, 4⟩
  | .bcc _ => ⟨0x90#8, .bcc, .relative, 2, 2⟩
  | .bcs _ => ⟨0xB0#8, .bcs, .relative, 2, 2⟩
  | .beq _ => ⟨0xF0#8, .beq, .relative, 2, 2⟩
  | .bne _ => ⟨0xD0#8, .bne, .relative, 2, 2⟩
  | .bmi _ => ⟨0x30#8, .bmi, .relative, 2, 2⟩
  | .bpl _ => ⟨0x10#8, .bpl, .relative, 2, 2⟩
  | .bvc _ => ⟨0x50#8, .bvc, .relative, 2, 2⟩
  | .bvs _ => ⟨0x70#8, .bvs, .relative, 2, 2⟩
  | .clc => ⟨0x18#8, .clc, .implied, 1, 2⟩
  | .sec => ⟨0x38#8, .sec, .implied, 1, 2⟩
  | .cld => ⟨0xD8#8, .cld, .implied, 1, 2⟩
  | .sed => ⟨0xF8#8, .sed, .implied, 1, 2⟩
  | .cli => ⟨0x58#8, .cli, .implied, 1, 2⟩
  | .sei => ⟨0x78#8, .sei, .implied, 1, 2⟩
  | .clv => ⟨0xB8#8, .clv, .implied, 1, 2⟩
  | .brk => ⟨0x00#8, .brk, .implied, 1, 7⟩
  | .jmpAbsolute _ => ⟨0x4C#8, .jmp, .absolute, 3, 3⟩
  | .jmpIndirect _ => ⟨0x6C#8, .jmp, .indirect, 3, 5⟩
  | .jsrAbsolute _ => ⟨0x20#8, .jsr, .absolute, 3, 6⟩
  | .rts => ⟨0x60#8, .rts, .implied, 1, 6⟩
  | .rti => ⟨0x40#8, .rti, .implied, 1, 6⟩
  | .pha => ⟨0x48#8, .pha, .implied, 1, 3⟩
  | .php => ⟨0x08#8, .php, .implied, 1, 3⟩
  | .pla => ⟨0x68#8, .pla, .implied, 1, 4⟩
  | .plp => ⟨0x28#8, .plp, .implied, 1, 4⟩
  | .nop => ⟨0xEA#8, .nop, .implied, 1, 2⟩

/-- The addressing mode of an instruction with its operand bytes: the argument of `Resolve`
(spec/40_driver_and_modes.md rule R110). -/
def Instr.form : Instr → Form
  | .ldaImmediate n => .immediate n
  | .ldaZeroPage n => .zeroPage n
  | .ldaZeroPageX n => .zeroPageX n
  | .ldaAbsolute w => .absolute w
  | .ldaAbsoluteX w => .absoluteX w
  | .ldaAbsoluteY w => .absoluteY w
  | .ldaIndirectX n => .indirectX n
  | .ldaIndirectY n => .indirectY n
  | .ldxImmediate n => .immediate n
  | .ldxZeroPage n => .zeroPage n
  | .ldxZeroPageY n => .zeroPageY n
  | .ldxAbsolute w => .absolute w
  | .ldxAbsoluteY w => .absoluteY w
  | .ldyImmediate n => .immediate n
  | .ldyZeroPage n => .zeroPage n
  | .ldyZeroPageX n => .zeroPageX n
  | .ldyAbsolute w => .absolute w
  | .ldyAbsoluteX w => .absoluteX w
  | .staZeroPage n => .zeroPage n
  | .staZeroPageX n => .zeroPageX n
  | .staAbsolute w => .absolute w
  | .staAbsoluteX w => .absoluteX w
  | .staAbsoluteY w => .absoluteY w
  | .staIndirectX n => .indirectX n
  | .staIndirectY n => .indirectY n
  | .stxZeroPage n => .zeroPage n
  | .stxZeroPageY n => .zeroPageY n
  | .stxAbsolute w => .absolute w
  | .styZeroPage n => .zeroPage n
  | .styZeroPageX n => .zeroPageX n
  | .styAbsolute w => .absolute w
  | .adcImmediate n => .immediate n
  | .adcZeroPage n => .zeroPage n
  | .adcZeroPageX n => .zeroPageX n
  | .adcAbsolute w => .absolute w
  | .adcAbsoluteX w => .absoluteX w
  | .adcAbsoluteY w => .absoluteY w
  | .adcIndirectX n => .indirectX n
  | .adcIndirectY n => .indirectY n
  | .sbcImmediate n => .immediate n
  | .sbcZeroPage n => .zeroPage n
  | .sbcZeroPageX n => .zeroPageX n
  | .sbcAbsolute w => .absolute w
  | .sbcAbsoluteX w => .absoluteX w
  | .sbcAbsoluteY w => .absoluteY w
  | .sbcIndirectX n => .indirectX n
  | .sbcIndirectY n => .indirectY n
  | .andImmediate n => .immediate n
  | .andZeroPage n => .zeroPage n
  | .andZeroPageX n => .zeroPageX n
  | .andAbsolute w => .absolute w
  | .andAbsoluteX w => .absoluteX w
  | .andAbsoluteY w => .absoluteY w
  | .andIndirectX n => .indirectX n
  | .andIndirectY n => .indirectY n
  | .oraImmediate n => .immediate n
  | .oraZeroPage n => .zeroPage n
  | .oraZeroPageX n => .zeroPageX n
  | .oraAbsolute w => .absolute w
  | .oraAbsoluteX w => .absoluteX w
  | .oraAbsoluteY w => .absoluteY w
  | .oraIndirectX n => .indirectX n
  | .oraIndirectY n => .indirectY n
  | .eorImmediate n => .immediate n
  | .eorZeroPage n => .zeroPage n
  | .eorZeroPageX n => .zeroPageX n
  | .eorAbsolute w => .absolute w
  | .eorAbsoluteX w => .absoluteX w
  | .eorAbsoluteY w => .absoluteY w
  | .eorIndirectX n => .indirectX n
  | .eorIndirectY n => .indirectY n
  | .aslAccumulator => .accumulator
  | .aslZeroPage n => .zeroPage n
  | .aslZeroPageX n => .zeroPageX n
  | .aslAbsolute w => .absolute w
  | .aslAbsoluteX w => .absoluteX w
  | .lsrAccumulator => .accumulator
  | .lsrZeroPage n => .zeroPage n
  | .lsrZeroPageX n => .zeroPageX n
  | .lsrAbsolute w => .absolute w
  | .lsrAbsoluteX w => .absoluteX w
  | .rolAccumulator => .accumulator
  | .rolZeroPage n => .zeroPage n
  | .rolZeroPageX n => .zeroPageX n
  | .rolAbsolute w => .absolute w
  | .rolAbsoluteX w => .absoluteX w
  | .rorAccumulator => .accumulator
  | .rorZeroPage n => .zeroPage n
  | .rorZeroPageX n => .zeroPageX n
  | .rorAbsolute w => .absolute w
  | .rorAbsoluteX w => .absoluteX w
  | .incZeroPage n => .zeroPage n
  | .incZeroPageX n => .zeroPageX n
  | .incAbsolute w => .absolute w
  | .incAbsoluteX w => .absoluteX w
  | .decZeroPage n => .zeroPage n
  | .decZeroPageX n => .zeroPageX n
  | .decAbsolute w => .absolute w
  | .decAbsoluteX w => .absoluteX w
  | .inx => .implied
  | .iny => .implied
  | .dex => .implied
  | .dey => .implied
  | .tax => .implied
  | .tay => .implied
  | .txa => .implied
  | .tya => .implied
  | .tsx => .implied
  | .txs => .implied
  | .bitZeroPage n => .zeroPage n
  | .bitAbsolute w => .absolute w
  | .cmpImmediate n => .immediate n
  | .cmpZeroPage n => .zeroPage n
  | .cmpZeroPageX n => .zeroPageX n
  | .cmpAbsolute w => .absolute w
  | .cmpAbsoluteX w => .absoluteX w
  | .cmpAbsoluteY w => .absoluteY w
  | .cmpIndirectX n => .indirectX n
  | .cmpIndirectY n => .indirectY n
  | .cpxImmediate n => .immediate n
  | .cpxZeroPage n => .zeroPage n
  | .cpxAbsolute w => .absolute w
  | .cpyImmediate n => .immediate n
  | .cpyZeroPage n => .zeroPage n
  | .cpyAbsolute w => .absolute w
  | .bcc n => .relative n
  | .bcs n => .relative n
  | .beq n => .relative n
  | .bne n => .relative n
  | .bmi n => .relative n
  | .bpl n => .relative n
  | .bvc n => .relative n
  | .bvs n => .relative n
  | .clc => .implied
  | .sec => .implied
  | .cld => .implied
  | .sed => .implied
  | .cli => .implied
  | .sei => .implied
  | .clv => .implied
  | .brk => .implied
  | .jmpAbsolute w => .absolute w
  | .jmpIndirect w => .indirect w
  | .jsrAbsolute w => .absolute w
  | .rts => .implied
  | .rti => .implied
  | .pha => .implied
  | .php => .implied
  | .pla => .implied
  | .plp => .implied
  | .nop => .implied

end Sys2Proof
end

