-- ==== Sys2Proof/WellFormed.lean ====
section
/-! DEFINITION. The well-formedness check of the syntax. Operand bytes have no reserved values: all
256 values of each are legal (spec/30_encoding.md rule R90), and the types of `Instr` hold exactly
these. What is left to check is the row an instruction stands for: its length against its mode
(spec/40_driver_and_modes.md rule R127), its base cycles (spec/70_reset_and_hazards.md rule R292)
and its mode against the class of its mnemonic (spec/40_driver_and_modes.md rules R108 to R123). -/

namespace Sys2Proof

/-- The length column of spec/40_driver_and_modes.md rule R127: 1 + the operand bytes of the mode. -/
def Mode.length : Mode → Nat
  | .implied | .accumulator => 1
  | .immediate | .zeroPage | .zeroPageX | .zeroPageY | .indirectX | .indirectY | .relative => 2
  | .absolute | .absoluteX | .absoluteY | .indirect => 3

/-- The operand classes of spec/40_driver_and_modes.md rule R108. -/
inductive OperandClass where
  | valueConsuming | store | modify | address | none | relative
deriving DecidableEq, Repr

/-- The class of each mnemonic, the table of spec/40_driver_and_modes.md rule R108. -/
def Mnemonic.operandClass : Mnemonic → OperandClass
  | .lda | .ldx | .ldy | .adc | .sbc | .and | .ora | .eor | .cmp | .cpx | .cpy | .bit =>
    .valueConsuming
  | .sta | .stx | .sty => .store
  | .asl | .lsr | .rol | .ror | .inc | .dec => .modify
  | .jmp | .jsr => .address
  | .inx | .iny | .dex | .dey | .tax | .tay | .txa | .tya | .tsx | .txs => .none
  | .clc | .sec | .cld | .sed | .cli | .sei | .clv => .none
  | .brk | .rts | .rti | .pha | .php | .pla | .plp | .nop => .none
  | .bcc | .bcs | .beq | .bne | .bmi | .bpl | .bvc | .bvs => .relative

/-- The byte count is the mode's (rule R127). -/
def OpRow.lengthOk (r : OpRow) : Bool := r.length == r.mode.length

/-- The base cycles are 2 to 7 (spec/70_reset_and_hazards.md rule R292). -/
def OpRow.baseOk (r : OpRow) : Bool := 2 ≤ r.base && r.base ≤ 7

/-- The mode is one that the mnemonic's class can use: `implied` for a mnemonic without operand and
for nothing else (rules R108, R125, R126), `relative` for a branch and for nothing else (rule R103),
`immediate` for a value-consuming mnemonic only (rule R113), `accumulator` for ASL, LSR, ROL, ROR
only (rule R112), `zero-page,Y` for LDX and STX only (rule R116), `indirect` for JMP only (rule
R120). -/
def OpRow.modeOk (r : OpRow) : Bool :=
  match r.mode with
  | .implied => r.mnemonic.operandClass == .none
  | .relative => r.mnemonic.operandClass == .relative
  | .immediate => r.mnemonic.operandClass == .valueConsuming
  | .accumulator => [.asl, .lsr, .rol, .ror].contains r.mnemonic
  | .zeroPageY => [.ldx, .stx].contains r.mnemonic
  | .indirect => r.mnemonic == .jmp
  | .absolute => r.mnemonic.operandClass != .none && r.mnemonic.operandClass != .relative
  | .zeroPage | .zeroPageX | .absoluteX | .absoluteY | .indirectX | .indirectY =>
    r.mnemonic.operandClass != .none && r.mnemonic.operandClass != .relative &&
      r.mnemonic.operandClass != .address

/-- A row that the opcode table may hold. -/
def OpRow.wellFormed (r : OpRow) : Bool := r.lengthOk && r.baseOk && r.modeOk

/-- An instruction is well formed when its row is and its operand is of the row's mode. -/
def Instr.wellFormed (i : Instr) : Bool := i.row.wellFormed && i.form.mode == i.row.mode

end Sys2Proof
end

