-- ==== Sys2Proof/Decode.lean ====
section
/-! DEFINITION. The decoder, total on any bytes, and after it the encoder, both written from
spec/30_encoding.md rules R80 to R90. -/

namespace Sys2Proof

/-- Why bytes are no instruction. `undefinedOpcode` is one of the 105 undefined slots of
spec/30_encoding.md rule R89; the other two say that the given bytes end too early. -/
inductive DecodeError where
  | noBytes
  | undefinedOpcode (opcode : Byte)
  | missingOperand (opcode : Byte)
deriving DecidableEq, Repr

/-- The opcode dispatch of spec/30_encoding.md rules R84, R88, R89: a lookup on all 8 bits of the
opcode byte, which alone selects the instruction. `n` and `h` are the next two bytes, used only
where the format has them; a word operand is `{h, n}` (rule R82). -/
def decodeOpcode (opcode n h : Byte) : Option Instr :=
  match opcode with
  | 0x00#8 => some .brk
  | 0x01#8 => some (.oraIndirectX n)
  | 0x05#8 => some (.oraZeroPage n)
  | 0x06#8 => some (.aslZeroPage n)
  | 0x08#8 => some .php
  | 0x09#8 => some (.oraImmediate n)
  | 0x0A#8 => some .aslAccumulator
  | 0x0D#8 => some (.oraAbsolute (.ofBytes h n))
  | 0x0E#8 => some (.aslAbsolute (.ofBytes h n))
  | 0x10#8 => some (.bpl n)
  | 0x11#8 => some (.oraIndirectY n)
  | 0x15#8 => some (.oraZeroPageX n)
  | 0x16#8 => some (.aslZeroPageX n)
  | 0x18#8 => some .clc
  | 0x19#8 => some (.oraAbsoluteY (.ofBytes h n))
  | 0x1D#8 => some (.oraAbsoluteX (.ofBytes h n))
  | 0x1E#8 => some (.aslAbsoluteX (.ofBytes h n))
  | 0x20#8 => some (.jsrAbsolute (.ofBytes h n))
  | 0x21#8 => some (.andIndirectX n)
  | 0x24#8 => some (.bitZeroPage n)
  | 0x25#8 => some (.andZeroPage n)
  | 0x26#8 => some (.rolZeroPage n)
  | 0x28#8 => some .plp
  | 0x29#8 => some (.andImmediate n)
  | 0x2A#8 => some .rolAccumulator
  | 0x2C#8 => some (.bitAbsolute (.ofBytes h n))
  | 0x2D#8 => some (.andAbsolute (.ofBytes h n))
  | 0x2E#8 => some (.rolAbsolute (.ofBytes h n))
  | 0x30#8 => some (.bmi n)
  | 0x31#8 => some (.andIndirectY n)
  | 0x35#8 => some (.andZeroPageX n)
  | 0x36#8 => some (.rolZeroPageX n)
  | 0x38#8 => some .sec
  | 0x39#8 => some (.andAbsoluteY (.ofBytes h n))
  | 0x3D#8 => some (.andAbsoluteX (.ofBytes h n))
  | 0x3E#8 => some (.rolAbsoluteX (.ofBytes h n))
  | 0x40#8 => some .rti
  | 0x41#8 => some (.eorIndirectX n)
  | 0x45#8 => some (.eorZeroPage n)
  | 0x46#8 => some (.lsrZeroPage n)
  | 0x48#8 => some .pha
  | 0x49#8 => some (.eorImmediate n)
  | 0x4A#8 => some .lsrAccumulator
  | 0x4C#8 => some (.jmpAbsolute (.ofBytes h n))
  | 0x4D#8 => some (.eorAbsolute (.ofBytes h n))
  | 0x4E#8 => some (.lsrAbsolute (.ofBytes h n))
  | 0x50#8 => some (.bvc n)
  | 0x51#8 => some (.eorIndirectY n)
  | 0x55#8 => some (.eorZeroPageX n)
  | 0x56#8 => some (.lsrZeroPageX n)
  | 0x58#8 => some .cli
  | 0x59#8 => some (.eorAbsoluteY (.ofBytes h n))
  | 0x5D#8 => some (.eorAbsoluteX (.ofBytes h n))
  | 0x5E#8 => some (.lsrAbsoluteX (.ofBytes h n))
  | 0x60#8 => some .rts
  | 0x61#8 => some (.adcIndirectX n)
  | 0x65#8 => some (.adcZeroPage n)
  | 0x66#8 => some (.rorZeroPage n)
  | 0x68#8 => some .pla
  | 0x69#8 => some (.adcImmediate n)
  | 0x6A#8 => some .rorAccumulator
  | 0x6C#8 => some (.jmpIndirect (.ofBytes h n))
  | 0x6D#8 => some (.adcAbsolute (.ofBytes h n))
  | 0x6E#8 => some (.rorAbsolute (.ofBytes h n))
  | 0x70#8 => some (.bvs n)
  | 0x71#8 => some (.adcIndirectY n)
  | 0x75#8 => some (.adcZeroPageX n)
  | 0x76#8 => some (.rorZeroPageX n)
  | 0x78#8 => some .sei
  | 0x79#8 => some (.adcAbsoluteY (.ofBytes h n))
  | 0x7D#8 => some (.adcAbsoluteX (.ofBytes h n))
  | 0x7E#8 => some (.rorAbsoluteX (.ofBytes h n))
  | 0x81#8 => some (.staIndirectX n)
  | 0x84#8 => some (.styZeroPage n)
  | 0x85#8 => some (.staZeroPage n)
  | 0x86#8 => some (.stxZeroPage n)
  | 0x88#8 => some .dey
  | 0x8A#8 => some .txa
  | 0x8C#8 => some (.styAbsolute (.ofBytes h n))
  | 0x8D#8 => some (.staAbsolute (.ofBytes h n))
  | 0x8E#8 => some (.stxAbsolute (.ofBytes h n))
  | 0x90#8 => some (.bcc n)
  | 0x91#8 => some (.staIndirectY n)
  | 0x94#8 => some (.styZeroPageX n)
  | 0x95#8 => some (.staZeroPageX n)
  | 0x96#8 => some (.stxZeroPageY n)
  | 0x98#8 => some .tya
  | 0x99#8 => some (.staAbsoluteY (.ofBytes h n))
  | 0x9A#8 => some .txs
  | 0x9D#8 => some (.staAbsoluteX (.ofBytes h n))
  | 0xA0#8 => some (.ldyImmediate n)
  | 0xA1#8 => some (.ldaIndirectX n)
  | 0xA2#8 => some (.ldxImmediate n)
  | 0xA4#8 => some (.ldyZeroPage n)
  | 0xA5#8 => some (.ldaZeroPage n)
  | 0xA6#8 => some (.ldxZeroPage n)
  | 0xA8#8 => some .tay
  | 0xA9#8 => some (.ldaImmediate n)
  | 0xAA#8 => some .tax
  | 0xAC#8 => some (.ldyAbsolute (.ofBytes h n))
  | 0xAD#8 => some (.ldaAbsolute (.ofBytes h n))
  | 0xAE#8 => some (.ldxAbsolute (.ofBytes h n))
  | 0xB0#8 => some (.bcs n)
  | 0xB1#8 => some (.ldaIndirectY n)
  | 0xB4#8 => some (.ldyZeroPageX n)
  | 0xB5#8 => some (.ldaZeroPageX n)
  | 0xB6#8 => some (.ldxZeroPageY n)
  | 0xB8#8 => some .clv
  | 0xB9#8 => some (.ldaAbsoluteY (.ofBytes h n))
  | 0xBA#8 => some .tsx
  | 0xBC#8 => some (.ldyAbsoluteX (.ofBytes h n))
  | 0xBD#8 => some (.ldaAbsoluteX (.ofBytes h n))
  | 0xBE#8 => some (.ldxAbsoluteY (.ofBytes h n))
  | 0xC0#8 => some (.cpyImmediate n)
  | 0xC1#8 => some (.cmpIndirectX n)
  | 0xC4#8 => some (.cpyZeroPage n)
  | 0xC5#8 => some (.cmpZeroPage n)
  | 0xC6#8 => some (.decZeroPage n)
  | 0xC8#8 => some .iny
  | 0xC9#8 => some (.cmpImmediate n)
  | 0xCA#8 => some .dex
  | 0xCC#8 => some (.cpyAbsolute (.ofBytes h n))
  | 0xCD#8 => some (.cmpAbsolute (.ofBytes h n))
  | 0xCE#8 => some (.decAbsolute (.ofBytes h n))
  | 0xD0#8 => some (.bne n)
  | 0xD1#8 => some (.cmpIndirectY n)
  | 0xD5#8 => some (.cmpZeroPageX n)
  | 0xD6#8 => some (.decZeroPageX n)
  | 0xD8#8 => some .cld
  | 0xD9#8 => some (.cmpAbsoluteY (.ofBytes h n))
  | 0xDD#8 => some (.cmpAbsoluteX (.ofBytes h n))
  | 0xDE#8 => some (.decAbsoluteX (.ofBytes h n))
  | 0xE0#8 => some (.cpxImmediate n)
  | 0xE1#8 => some (.sbcIndirectX n)
  | 0xE4#8 => some (.cpxZeroPage n)
  | 0xE5#8 => some (.sbcZeroPage n)
  | 0xE6#8 => some (.incZeroPage n)
  | 0xE8#8 => some .inx
  | 0xE9#8 => some (.sbcImmediate n)
  | 0xEA#8 => some .nop
  | 0xEC#8 => some (.cpxAbsolute (.ofBytes h n))
  | 0xED#8 => some (.sbcAbsolute (.ofBytes h n))
  | 0xEE#8 => some (.incAbsolute (.ofBytes h n))
  | 0xF0#8 => some (.beq n)
  | 0xF1#8 => some (.sbcIndirectY n)
  | 0xF5#8 => some (.sbcZeroPageX n)
  | 0xF6#8 => some (.incZeroPageX n)
  | 0xF8#8 => some .sed
  | 0xF9#8 => some (.sbcAbsoluteY (.ofBytes h n))
  | 0xFD#8 => some (.sbcAbsoluteX (.ofBytes h n))
  | 0xFE#8 => some (.incAbsoluteX (.ofBytes h n))
  | _ => none

/-- The instruction at the front of `bytes` and the bytes after it. -/
def decode : List Byte → Except DecodeError (Instr × List Byte)
  | [] => .error .noBytes
  | opcode :: rest =>
    match decodeOpcode opcode (rest.getD 0 0#8) (rest.getD 1 0#8) with
    | none => .error (.undefinedOpcode opcode)
    | some i =>
      if i.row.length ≤ rest.length + 1 then .ok (i, rest.drop (i.row.length - 1))
      else .error (.missingOperand opcode)

/-- `OPTAB` of spec/40_driver_and_modes.md rule R100: a total function from opcodes to "undefined"
or a row (spec/30_encoding.md rules R80, R87). -/
def optab (opcode : Byte) : Option OpRow :=
  (decodeOpcode opcode 0#8 0#8).map Instr.row

/-- The operand bytes of a form in the order they stand in memory (spec/30_encoding.md rule R81). -/
def Form.operandBytes : Form → List Byte
  | .implied | .accumulator => []
  | .immediate n | .zeroPage n | .zeroPageX n | .zeroPageY n => [n]
  | .indirectX n | .indirectY n | .relative n => [n]
  | .absolute w | .absoluteX w | .absoluteY w | .indirect w => [w.lo, w.hi]

/-- The bytes of an instruction: the opcode byte, then its operand bytes, at ascending addresses
(spec/30_encoding.md rules R80, R81). -/
def encode (i : Instr) : List Byte :=
  i.row.opcode :: i.form.operandBytes

/-- What the decoder reads from an instruction whose bits are `w`, bit 0 the least significant bit
of the first byte, every bit above `nbits` zero: the byte at the lowest address is `w[7:0]`, the
next one `w[15:8]`, the third `w[23:16]`. -/
def decodeTableWord (nbits w : Nat) : Option Instr :=
  let v := w % 2 ^ nbits
  match decode [BitVec.ofNat 8 v, BitVec.ofNat 8 (v / 2 ^ 8), BitVec.ofNat 8 (v / 2 ^ 16)] with
  | .ok (i, _) => some i
  | .error _ => none

end Sys2Proof
end

