-- ==== Sys2Proof/Machine/State.lean ====
section
/-! DEFINITION. The state of the machine as plain data, the ways a host operation can end other than
normally, and the state after reset. -/

namespace Sys2Proof.Machine

/-- The two error kinds of spec/60_exceptions.md rule R240. Both are delivered to the host and
change no state but what rule R241 says of PC. -/
inductive Fault where
  /-- Raised by `step` when the opcode byte selects an undefined slot of the opcode table
  (spec/60_exceptions.md rule R241): the byte fetched and the address it was fetched from. Safe: the
  spec names this fault and gives it no other effect. -/
  | unknownOpcode (byte : Byte) (pc : Word)
  /-- Raised by the host's named-flag write when the value is neither 0 nor 1
  (spec/60_exceptions.md rule R242): the index of the flag's bit. Never raised by `step`. Safe. -/
  | statusBitError (index : Fin 8)
deriving DecidableEq, Repr

/-- What is turned away without an effect. -/
inductive Refusal where
  /-- Raised by an arm of `exec` whose instruction has no meaning yet. No arm raises it. Safe. -/
  | notModelled (mnemonic : String)
  /-- Raised by the host's `read_range` and `write_range` for a range outside memory
  (spec/20_memory.md rule R57). Never raised by `step`. Safe. -/
  | rangeRefused
  /-- Raised by the host's `load_image` for a memory that is not exactly 65,536 bytes
  (spec/70_reset_and_hazards.md rule R283). Never raised by `step`. Safe. -/
  | imageSizeRefused
deriving DecidableEq, Repr

/-- The memory of spec/10_state.md rule R41: 65,536 bytes, held as the list of (address, byte) pairs
that differ from what an unlisted address reads as, addresses strictly rising (Machine/Memory.lean). -/
abbrev Memory := List Host.Cell

/-- The seven cells of spec/10_state.md rule R20 and the memory of rule R41. There is no other state
(rules R42, R44, R45). -/
structure State where
  /-- program counter (rule R21) -/
  pc  : Word
  /-- stack pointer (rule R23) -/
  sp  : Byte
  /-- status register, held as one byte (rule R27); read and written through `readSr` and `setSr`,
  which hard-wire bit 5 (rule R35) -/
  sr  : Byte
  /-- accumulator (rule R24) -/
  a   : Byte
  /-- index register X (rule R25) -/
  x   : Byte
  /-- index register Y (rule R26) -/
  y   : Byte
  /-- cycle counter, unbounded (rule R28) -/
  cc  : Nat
  /-- memory (rule R41) -/
  mem : Memory
deriving DecidableEq, Repr

/-- The state after `reset` (spec/10_state.md rule R43, spec/70_reset_and_hazards.md rule R270):
every byte of memory reads 0x00, so none is listed. -/
def State.reset : State :=
  { pc := 0xFFFC#16, sp := 0xFF#8, sr := 0x30#8, a := 0x00#8, x := 0x00#8, y := 0x00#8,
    cc := 0, mem := [] }

end Sys2Proof.Machine
end

