-- ==== Sys2Proof/Machine/Flags.lean ====
section
/-! DEFINITION. The status register and its flags (spec/10_state.md rules R27 to R40), and the flag
computations of the adder, the comparator and the shifter. -/

namespace Sys2Proof.Machine

/-- The eight named bits of SR (spec/10_state.md rule R27). -/
inductive Flag where
  | carry | zero | interruptDisable | decimal | brk | unused | overflow | negative
deriving DecidableEq, Repr

/-- The bit of SR a flag is (spec/10_state.md rule R27, "LSB→MSB"). -/
def Flag.index : Flag → Fin 8
  | .carry => 0
  | .zero => 1
  | .interruptDisable => 2
  | .decimal => 3
  | .brk => 4
  | .unused => 5
  | .overflow => 6
  | .negative => 7

/-- The mask column of spec/10_state.md rule R27. -/
def Flag.mask (f : Flag) : Byte := 1#8 <<< f.index.val

/-- The byte `v` with one bit set or cleared: `SR.C <- e` of spec/00_scope.md rule R7. -/
def Flag.put (f : Flag) (on : Bool) (v : Byte) : Byte :=
  if on then v ||| f.mask else v &&& ~~~f.mask

/-- A read of SR as a byte: bit 5 reads 1 (spec/10_state.md rule R35). -/
def State.readSr (s : State) : Byte := s.sr ||| 0x20#8

/-- `SR <- v` (spec/10_state.md rule R40): every write forces bit 5 to 1. -/
def State.setSr (s : State) (v : Byte) : State := { s with sr := v ||| 0x20#8 }

/-- A read of one flag. -/
def State.flag (s : State) (f : Flag) : Bool := s.readSr.getLsbD f.index.val

/-- A write of one flag: the other bits of SR keep their values (spec/00_scope.md rule R7). -/
def State.setFlag (s : State) (f : Flag) (on : Bool) : State := s.setSr (f.put on s.readSr)

/-- `SetNZ(v)` (spec/10_state.md rule R36). -/
def State.setNZ (s : State) (v : Byte) : State :=
  (s.setFlag .zero (v == 0#8)).setFlag .negative (v.getLsbD 7)

/-- A flag as the number it adds to a sum (spec/00_scope.md rule R6). -/
def State.carryNat (s : State) : Nat := (s.flag .carry).toNat

/-- The sum `tmp` of spec/42_arith_logic.md rule R150, exact in 0 to 511. -/
def adderSum (a v : Byte) (carry : Nat) : Nat := a.toNat + v.toNat + carry

/-- Carry out of the adder: `tmp > 0xFF` (spec/42_arith_logic.md rule R150). -/
def adderCarry (tmp : Nat) : Bool := tmp > 0xFF

/-- Overflow of the adder: `((A ^ tmp) & (v ^ tmp) & 0x80) != 0` (spec/42_arith_logic.md rule R150). -/
def adderOverflow (a v : Byte) (tmp : Nat) : Bool :=
  (a ^^^ BitVec.ofNat 8 tmp) &&& (v ^^^ BitVec.ofNat 8 tmp) &&& 0x80#8 != 0#8

/-- Carry of a compare: `reg >= operand`, unsigned (spec/46_compare_bit.md rule R191). -/
def compareCarry (reg v : Byte) : Bool := v.toNat ≤ reg.toNat

/-- `v << 1` truncated (spec/43_shift_rotate.md rule R160). -/
def shiftLeft (v : Byte) : Byte := v <<< 1

/-- `v >> 1` (spec/43_shift_rotate.md rule R161). -/
def shiftRight (v : Byte) : Byte := v >>> 1

/-- `((v << 1) | c) & 0xFF` (spec/43_shift_rotate.md rule R162). -/
def rotateLeft (v : Byte) (c : Bool) : Byte := (v <<< 1) ||| (if c then 0x01#8 else 0x00#8)

/-- `(v >> 1) | (c << 7)` (spec/43_shift_rotate.md rule R163). -/
def rotateRight (v : Byte) (c : Bool) : Byte := (v >>> 1) ||| (if c then 0x80#8 else 0x00#8)

end Sys2Proof.Machine
end

