-- ==== Sys2Proof/Machine/Memory.lean ====
section
/-! DEFINITION. The memory accessors of spec/20_memory.md rules R52 to R56, over memory held as a
sorted list of the bytes that differ from `Memory.unlisted`. Every address below 65,536 is valid and
no access fails (rule R50). -/

namespace Sys2Proof.Machine

/-- What an address that is not listed reads as: the reset content of memory (spec/10_state.md rule
R43). -/
def Memory.unlisted : Byte := Config.ramReset

/-- The number of memory cells (spec/20_memory.md rule R50). -/
def Memory.size : Nat := 65536

/-- The canonical form: addresses strictly rising and inside memory, no entry equal to what an
unlisted address reads as. -/
abbrev Memory.wf (m : Memory) : Prop :=
  m.Pairwise (fun c d => c.1 < d.1) ∧ ∀ c ∈ m, c.1 < Memory.size ∧ c.2 ≠ Memory.unlisted

/-- The byte at cell `k`. -/
def Memory.get : Memory → Nat → Byte
  | [], _ => Memory.unlisted
  | (j, b) :: m, k => if j = k then b else Memory.get m k

/-- The memory with the byte `v` at cell `k`, in canonical form again. -/
def Memory.put : Memory → Nat → Byte → Memory
  | [], k, v => if v = Memory.unlisted then [] else [(k, v)]
  | (j, b) :: m, k, v =>
    if k < j then (if v = Memory.unlisted then (j, b) :: m else (k, v) :: (j, b) :: m)
    else if k = j then (if v = Memory.unlisted then m else (k, v) :: m)
    else (j, b) :: Memory.put m k v

/-- `MemRead(a, 1)` (spec/20_memory.md rule R52). -/
def Memory.read (m : Memory) (a : Word) : Byte := Memory.get m a.toNat

/-- `MemWrite(a, 1, v)` (spec/20_memory.md rule R53). -/
def Memory.write (m : Memory) (a : Word) (v : Byte) : Memory := Memory.put m a.toNat v

/-- `MemRead(a, 2)` (spec/20_memory.md rule R54): the high byte from `a + 1`, modulo 2^16. -/
def Memory.readWord (m : Memory) (a : Word) : Word :=
  Word.ofBytes (Memory.read m (a + 1)) (Memory.read m a)

/-- The address a page-wrapped word takes its high byte from: `(a & 0xFF00) | ((a + 1) & 0xFF)`
(spec/20_memory.md rule R55). -/
def pageWrapNext (a : Word) : Word := (a &&& 0xFF00#16) ||| ((a + 1) &&& 0x00FF#16)

/-- `MemReadWrap(a)` (spec/20_memory.md rule R55). -/
def Memory.readWordWrap (m : Memory) (a : Word) : Word :=
  Word.ofBytes (Memory.read m (pageWrapNext a)) (Memory.read m a)

/-- `MemWrite(a, 2, v)` (spec/20_memory.md rule R56): low byte, then high byte; never wraps pages. -/
def Memory.writeWord (m : Memory) (a : Word) (v : Word) : Memory :=
  Memory.write (Memory.write m a v.lo) (a + 1) v.hi

end Sys2Proof.Machine
end

