-- ==== Sys2Proof/Machine/Ops.lean ====
section
/-! DEFINITION. The named operations over registers, memory and the stack, and the one trap of the
machine with its return. -/

namespace Sys2Proof.Machine

/-- `A <- v` (spec/10_state.md rule R24). -/
def State.setA (s : State) (v : Byte) : State := { s with a := v }

/-- `X <- v` (spec/10_state.md rule R25). -/
def State.setX (s : State) (v : Byte) : State := { s with x := v }

/-- `Y <- v` (spec/10_state.md rule R26). -/
def State.setY (s : State) (v : Byte) : State := { s with y := v }

/-- `SP <- v` (spec/10_state.md rule R23). -/
def State.setSp (s : State) (v : Byte) : State := { s with sp := v }

/-- `PC <- v` (spec/10_state.md rule R21). -/
def State.setPc (s : State) (v : Word) : State := { s with pc := v }

/-- `CC <- v` (spec/10_state.md rule R28). -/
def State.setCc (s : State) (v : Nat) : State := { s with cc := v }

/-- `MemRead(a, 1)` on the state's memory (spec/20_memory.md rule R52). -/
def State.readByte (s : State) (a : Word) : Byte := Memory.read s.mem a

/-- `MemWrite(a, 1, v)` on the state's memory (spec/20_memory.md rule R53). -/
def State.writeByte (s : State) (a : Word) (v : Byte) : State :=
  { s with mem := Memory.write s.mem a v }

/-- `MemRead(a, 2)` on the state's memory (spec/20_memory.md rule R54). -/
def State.readWord (s : State) (a : Word) : Word := Memory.readWord s.mem a

/-- `MemReadWrap(a)` on the state's memory (spec/20_memory.md rule R55). -/
def State.readWordWrap (s : State) (a : Word) : Word := Memory.readWordWrap s.mem a

/-- "The physical stack address is always 0x0100 + SP" (spec/10_state.md rule R23). -/
def stackAddr (sp : Byte) : Word := 0x0100#16 + sp.zext

/-- `Push(v)` (spec/20_memory.md rule R62). -/
def State.push (s : State) (v : Byte) : State :=
  (s.writeByte (stackAddr s.sp) v).setSp (s.sp - 1)

/-- `PushWord(w)` (spec/20_memory.md rule R63): high byte first. -/
def State.pushWord (s : State) (w : Word) : State := (s.push w.hi).push w.lo

/-- `Pop()` (spec/20_memory.md rule R64): the state after it and the byte read at the new SP. -/
def State.pop (s : State) : State × Byte :=
  let t := s.setSp (s.sp + 1)
  (t, t.readByte (stackAddr t.sp))

/-- `PopWord()` (spec/20_memory.md rule R65): low byte first. -/
def State.popWord (s : State) : State × Word :=
  let (s1, l) := s.pop
  let (s2, h) := s1.pop
  (s2, Word.ofBytes h l)

/-- The vector BRK loads PC from (spec/20_memory.md rule R61). -/
def brkVector : Word := 0xFFFE#16

/-- Trap entry (spec/60_exceptions.md rule R245, spec/49_jump_stack_system.md rule R220): push
`PC + 1` (PC being the opcode's address + 1), set B, push SR, set I, load PC from the vector. -/
def State.takeTrap (s : State) : State :=
  let s1 := s.pushWord (s.pc + 1)
  let s2 := s1.setFlag .brk true
  let s3 := s2.push s2.readSr
  let s4 := s3.setFlag .interruptDisable true
  s4.setPc (s4.readWord brkVector)

/-- Trap return (spec/60_exceptions.md rule R246, spec/49_jump_stack_system.md rule R224): pop SR,
whose bit 4 is ignored and whose bit 5 stays 1, then pop PC. -/
def State.returnFromTrap (s : State) : State :=
  let (s1, p) := s.pop
  let s2 := s1.setSr ((p &&& 0xCF#8) ||| (s1.readSr &&& 0x10#8) ||| 0x20#8)
  let (s3, w) := s2.popWord
  s3.setPc w

end Sys2Proof.Machine
end

