-- ==== Sys2Proof/Machine/Operands.lean ====
section
/-! DEFINITION. The addressing-mode calculator (spec/40_driver_and_modes.md rules R110 to R128), the
operand accessors, and the part of the driver that surrounds a mnemonic's body (rule R100, steps 3,
5 and 6). -/

namespace Sys2Proof.Machine

/-- The operand designator a mode yields (spec/40_driver_and_modes.md rule R110): nothing, the
accumulator, or an address. `imm` is the designator of `immediate`: the operand byte itself, which
rule R113 reads through `Addr(PC)` (notes/assumptions/4.md). -/
inductive Op where
  | none
  | acc
  | imm (v : Byte)
  | addr (a : Word)
deriving DecidableEq, Repr

/-- What `Resolve(mode)` gives: the designator, the penalty cycles it accrues, and PC after it, which
only `relative` changes (spec/40_driver_and_modes.md rule R128). -/
structure Resolved where
  op  : Op
  pen : Nat
  pc  : Word
deriving DecidableEq, Repr

/-- `Cross(target, reference)` (spec/40_driver_and_modes.md rule R124). -/
def cross (target reference : Word) : Bool := target &&& 0xFF00#16 != reference &&& 0xFF00#16

/-- The penalty of a page cross: one cycle (spec/40_driver_and_modes.md rule R124). -/
def crossPenalty (target reference : Word) : Nat := if cross target reference then 1 else 0

/-- The effective address of `zero-page,X` and `zero-page,Y` (spec/40_driver_and_modes.md rules R115,
R116): the sum wraps inside page zero. -/
def zeroPageIndexed (z index : Byte) : Word := (z + index).zext

/-- The effective address of `absolute,X`, `absolute,Y` and `(indirect),Y` over its unindexed base
(spec/40_driver_and_modes.md rules R118, R119, R122). -/
def indexed (base : Word) (index : Byte) : Word := base + index.zext

/-- The pointer of `(indirect,X)` (spec/40_driver_and_modes.md rule R121). -/
def indirectXPointer (n : Byte) (s : State) : Word := s.readWordWrap (n + s.x).zext

/-- The base of `(indirect),Y` (spec/40_driver_and_modes.md rule R122). -/
def indirectYBase (n : Byte) (s : State) : Word := s.readWordWrap n.zext

/-- The target of a taken branch (spec/40_driver_and_modes.md rule R123), from PC at the offset
byte. -/
def relativeTarget (n : Byte) (pc : Word) : Word := pc + 1 + n.sext

/-- A designator reached without penalty, PC untouched. -/
def State.designates (s : State) (op : Op) : Resolved := { op := op, pen := 0, pc := s.pc }

/-- `Resolve(mode)` (spec/40_driver_and_modes.md rules R110 to R123) on the operand bytes the
instruction carries; PC is the address of the first operand byte. -/
def resolve (f : Form) (s : State) : Resolved :=
  match f with
  | .implied => s.designates .none
  | .accumulator => s.designates .acc
  | .immediate n => s.designates (.imm n)
  | .zeroPage n => s.designates (.addr n.zext)
  | .zeroPageX n => s.designates (.addr (zeroPageIndexed n s.x))
  | .zeroPageY n => s.designates (.addr (zeroPageIndexed n s.y))
  | .absolute w => s.designates (.addr w)
  | .absoluteX w =>
    { op := .addr (indexed w s.x), pen := crossPenalty (indexed w s.x) w, pc := s.pc }
  | .absoluteY w =>
    { op := .addr (indexed w s.y), pen := crossPenalty (indexed w s.y) w, pc := s.pc }
  | .indirect w => s.designates (.addr (s.readWordWrap w))
  | .indirectX n => s.designates (.addr (indirectXPointer n s))
  | .indirectY n =>
    { op := .addr (indexed (indirectYBase n s) s.y),
      pen := crossPenalty (indexed (indirectYBase n s) s.y) (indirectYBase n s), pc := s.pc }
  | .relative n =>
    { op := .addr (relativeTarget n s.pc),
      pen := 1 + crossPenalty (relativeTarget n s.pc) (s.pc + 1), pc := s.pc + 1 }

/-- `ReadOp(op)` (spec/40_driver_and_modes.md rule R125). No rule reads `None`, and no row of the
opcode table gives it to a mnemonic that reads (WellFormed.lean, `OpRow.modeOk`); the value here is
never used. -/
def readOp (op : Op) (s : State) : Byte :=
  match op with
  | .none => 0x00#8
  | .acc => s.a
  | .imm v => v
  | .addr a => s.readByte a

/-- `WriteOp(op, v)` (spec/40_driver_and_modes.md rule R126). `implied` and `immediate` have no
setter, and no row of the opcode table gives them to a mnemonic that writes. -/
def writeOp (op : Op) (v : Byte) (s : State) : State :=
  match op with
  | .none => s
  | .acc => s.setA v
  | .imm _ => s
  | .addr a => s.writeByte a v

/-- Step 5 of the driver (spec/40_driver_and_modes.md rule R105): a PC-controlling mnemonic has
written PC itself. -/
def advancePc (i : Instr) (s : State) : State :=
  if i.row.mnemonic.pcControlling then s
  else s.setPc (s.pc + BitVec.ofNat 16 (i.row.length - 1))

/-- Step 6 of the driver (spec/40_driver_and_modes.md rule R106). -/
def countCycles (i : Instr) (pen : Nat) (s : State) : State := s.setCc (s.cc + i.row.base + pen)

/-- Steps 5 and 6 of the driver. -/
def retire (i : Instr) (pen : Nat) (s : State) : Host.Outcome State Fault Refusal :=
  .next (countCycles i pen (advancePc i s))

/-- Steps 3 to 6 of the driver for a mnemonic that is no branch (spec/40_driver_and_modes.md rules
R100, R103 to R106): the mode is resolved exactly once, before the body runs. -/
def runBody (i : Instr) (body : Op → State → State) (s : State) :
    Host.Outcome State Fault Refusal :=
  let r := resolve i.form s
  retire i r.pen (body r.op s)

/-- A value-consuming mnemonic (spec/40_driver_and_modes.md rule R108): its operand is read once and
nothing is written through it. -/
def runValue (i : Instr) (body : Byte → State → State) (s : State) :
    Host.Outcome State Fault Refusal :=
  runBody i (fun op s => body (readOp op s) s) s

/-- A store (rule R108): the operand is written once and never read. -/
def runStore (i : Instr) (value : State → Byte) (s : State) : Host.Outcome State Fault Refusal :=
  runBody i (fun op s => writeOp op (value s) s) s

/-- A modify mnemonic (rule R108): one read, then one write of the same operand; `result` gives the
byte written, from the operand and the state before it, and `flags` the flag writes from the operand
before, the result and the state. -/
def runModify (i : Instr) (result : Byte → State → Byte) (flags : Byte → Byte → State → State)
    (s : State) : Host.Outcome State Fault Refusal :=
  runBody i (fun op s =>
    let v := readOp op s
    let r := result v s
    flags v r (writeOp op r s)) s

/-- A mnemonic without operand (rule R108). -/
def runImplied (i : Instr) (body : State → State) (s : State) :
    Host.Outcome State Fault Refusal :=
  runBody i (fun _ s => body s) s

/-- The address class (rule R108): the resolved address is a jump target and no data byte is read. -/
def runAddress (i : Instr) (body : Word → State → State) (s : State) :
    Host.Outcome State Fault Refusal :=
  runBody i (fun op s => match op with | .addr a => body a s | .none | .acc | .imm _ => s) s

/-- The common branch body (spec/47_branch.md rule R200): `relative` is resolved only when the branch
is taken; not taken, PC advances past the offset only and no penalty accrues. -/
def runBranch (i : Instr) (taken : State → Bool) (s : State) : Host.Outcome State Fault Refusal :=
  if taken s then
    let r := resolve i.form s
    match r.op with
    | .addr t => retire i r.pen ((s.setPc r.pc).setPc t)
    | .none | .acc | .imm _ => retire i r.pen (s.setPc r.pc)
  else retire i 0 (s.setPc (s.pc + 1))

end Sys2Proof.Machine
end

