-- ==== Sys2Proof/Machine/Arith.lean ====
section
/-! DEFINITION. Arithmetic and logic on the accumulator (spec/42_arith_logic.md rules R149 to R154).
SR.D is never read (rule R149). -/

namespace Sys2Proof.Machine

/-- ADC (rule R150): A and the carry in are read before any write. -/
def adcBody (v : Byte) (s : State) : State :=
  let tmp := adderSum s.a v s.carryNat
  let s1 := s.setFlag .carry (adderCarry tmp)
  let s2 := s1.setFlag .overflow (adderOverflow s.a v tmp)
  let r := BitVec.ofNat 8 tmp
  (s2.setA r).setNZ r

/-- 0x69, immediate. -/
def execAdcImmediate (n : Byte) (s : State) : Host.Outcome State Fault Refusal :=
  runValue (.adcImmediate n) adcBody s

/-- 0x65, zero-page. -/
def execAdcZeroPage (n : Byte) (s : State) : Host.Outcome State Fault Refusal :=
  runValue (.adcZeroPage n) adcBody s

/-- 0x75, zero-page,X. -/
def execAdcZeroPageX (n : Byte) (s : State) : Host.Outcome State Fault Refusal :=
  runValue (.adcZeroPageX n) adcBody s

/-- 0x6D, absolute. -/
def execAdcAbsolute (w : Word) (s : State) : Host.Outcome State Fault Refusal :=
  runValue (.adcAbsolute w) adcBody s

/-- 0x7D, absolute,X. -/
def execAdcAbsoluteX (w : Word) (s : State) : Host.Outcome State Fault Refusal :=
  runValue (.adcAbsoluteX w) adcBody s

/-- 0x79, absolute,Y. -/
def execAdcAbsoluteY (w : Word) (s : State) : Host.Outcome State Fault Refusal :=
  runValue (.adcAbsoluteY w) adcBody s

/-- 0x61, (indirect,X). -/
def execAdcIndirectX (n : Byte) (s : State) : Host.Outcome State Fault Refusal :=
  runValue (.adcIndirectX n) adcBody s

/-- 0x71, (indirect),Y. -/
def execAdcIndirectY (n : Byte) (s : State) : Host.Outcome State Fault Refusal :=
  runValue (.adcIndirectY n) adcBody s

/-- SBC (rule R151): "equivalent to ADC with operand bit-inverted". -/
def sbcBody (v : Byte) (s : State) : State := adcBody (v ^^^ 0xFF#8) s

/-- 0xE9, immediate. -/
def execSbcImmediate (n : Byte) (s : State) : Host.Outcome State Fault Refusal :=
  runValue (.sbcImmediate n) sbcBody s

/-- 0xE5, zero-page. -/
def execSbcZeroPage (n : Byte) (s : State) : Host.Outcome State Fault Refusal :=
  runValue (.sbcZeroPage n) sbcBody s

/-- 0xF5, zero-page,X. -/
def execSbcZeroPageX (n : Byte) (s : State) : Host.Outcome State Fault Refusal :=
  runValue (.sbcZeroPageX n) sbcBody s

/-- 0xED, absolute. -/
def execSbcAbsolute (w : Word) (s : State) : Host.Outcome State Fault Refusal :=
  runValue (.sbcAbsolute w) sbcBody s

/-- 0xFD, absolute,X. -/
def execSbcAbsoluteX (w : Word) (s : State) : Host.Outcome State Fault Refusal :=
  runValue (.sbcAbsoluteX w) sbcBody s

/-- 0xF9, absolute,Y. -/
def execSbcAbsoluteY (w : Word) (s : State) : Host.Outcome State Fault Refusal :=
  runValue (.sbcAbsoluteY w) sbcBody s

/-- 0xE1, (indirect,X). -/
def execSbcIndirectX (n : Byte) (s : State) : Host.Outcome State Fault Refusal :=
  runValue (.sbcIndirectX n) sbcBody s

/-- 0xF1, (indirect),Y. -/
def execSbcIndirectY (n : Byte) (s : State) : Host.Outcome State Fault Refusal :=
  runValue (.sbcIndirectY n) sbcBody s

/-- `A <- A & ReadOp(op); SetNZ(A)` (rule R152). -/
def andBody (v : Byte) (s : State) : State := (s.setA (s.a &&& v)).setNZ (s.a &&& v)

/-- 0x29, immediate. -/
def execAndImmediate (n : Byte) (s : State) : Host.Outcome State Fault Refusal :=
  runValue (.andImmediate n) andBody s

/-- 0x25, zero-page. -/
def execAndZeroPage (n : Byte) (s : State) : Host.Outcome State Fault Refusal :=
  runValue (.andZeroPage n) andBody s

/-- 0x35, zero-page,X. -/
def execAndZeroPageX (n : Byte) (s : State) : Host.Outcome State Fault Refusal :=
  runValue (.andZeroPageX n) andBody s

/-- 0x2D, absolute. -/
def execAndAbsolute (w : Word) (s : State) : Host.Outcome State Fault Refusal :=
  runValue (.andAbsolute w) andBody s

/-- 0x3D, absolute,X. -/
def execAndAbsoluteX (w : Word) (s : State) : Host.Outcome State Fault Refusal :=
  runValue (.andAbsoluteX w) andBody s

/-- 0x39, absolute,Y. -/
def execAndAbsoluteY (w : Word) (s : State) : Host.Outcome State Fault Refusal :=
  runValue (.andAbsoluteY w) andBody s

/-- 0x21, (indirect,X). -/
def execAndIndirectX (n : Byte) (s : State) : Host.Outcome State Fault Refusal :=
  runValue (.andIndirectX n) andBody s

/-- 0x31, (indirect),Y. -/
def execAndIndirectY (n : Byte) (s : State) : Host.Outcome State Fault Refusal :=
  runValue (.andIndirectY n) andBody s

/-- `A <- A | ReadOp(op); SetNZ(A)` (rule R153). -/
def oraBody (v : Byte) (s : State) : State := (s.setA (s.a ||| v)).setNZ (s.a ||| v)

/-- 0x09, immediate. -/
def execOraImmediate (n : Byte) (s : State) : Host.Outcome State Fault Refusal :=
  runValue (.oraImmediate n) oraBody s

/-- 0x05, zero-page. -/
def execOraZeroPage (n : Byte) (s : State) : Host.Outcome State Fault Refusal :=
  runValue (.oraZeroPage n) oraBody s

/-- 0x15, zero-page,X. -/
def execOraZeroPageX (n : Byte) (s : State) : Host.Outcome State Fault Refusal :=
  runValue (.oraZeroPageX n) oraBody s

/-- 0x0D, absolute. -/
def execOraAbsolute (w : Word) (s : State) : Host.Outcome State Fault Refusal :=
  runValue (.oraAbsolute w) oraBody s

/-- 0x1D, absolute,X. -/
def execOraAbsoluteX (w : Word) (s : State) : Host.Outcome State Fault Refusal :=
  runValue (.oraAbsoluteX w) oraBody s

/-- 0x19, absolute,Y. -/
def execOraAbsoluteY (w : Word) (s : State) : Host.Outcome State Fault Refusal :=
  runValue (.oraAbsoluteY w) oraBody s

/-- 0x01, (indirect,X). -/
def execOraIndirectX (n : Byte) (s : State) : Host.Outcome State Fault Refusal :=
  runValue (.oraIndirectX n) oraBody s

/-- 0x11, (indirect),Y. -/
def execOraIndirectY (n : Byte) (s : State) : Host.Outcome State Fault Refusal :=
  runValue (.oraIndirectY n) oraBody s

/-- `A <- A ^ ReadOp(op); SetNZ(A)` (rule R154). -/
def eorBody (v : Byte) (s : State) : State := (s.setA (s.a ^^^ v)).setNZ (s.a ^^^ v)

/-- 0x49, immediate. -/
def execEorImmediate (n : Byte) (s : State) : Host.Outcome State Fault Refusal :=
  runValue (.eorImmediate n) eorBody s

/-- 0x45, zero-page. -/
def execEorZeroPage (n : Byte) (s : State) : Host.Outcome State Fault Refusal :=
  runValue (.eorZeroPage n) eorBody s

/-- 0x55, zero-page,X. -/
def execEorZeroPageX (n : Byte) (s : State) : Host.Outcome State Fault Refusal :=
  runValue (.eorZeroPageX n) eorBody s

/-- 0x4D, absolute. -/
def execEorAbsolute (w : Word) (s : State) : Host.Outcome State Fault Refusal :=
  runValue (.eorAbsolute w) eorBody s

/-- 0x5D, absolute,X. -/
def execEorAbsoluteX (w : Word) (s : State) : Host.Outcome State Fault Refusal :=
  runValue (.eorAbsoluteX w) eorBody s

/-- 0x59, absolute,Y. -/
def execEorAbsoluteY (w : Word) (s : State) : Host.Outcome State Fault Refusal :=
  runValue (.eorAbsoluteY w) eorBody s

/-- 0x41, (indirect,X). -/
def execEorIndirectX (n : Byte) (s : State) : Host.Outcome State Fault Refusal :=
  runValue (.eorIndirectX n) eorBody s

/-- 0x51, (indirect),Y. -/
def execEorIndirectY (n : Byte) (s : State) : Host.Outcome State Fault Refusal :=
  runValue (.eorIndirectY n) eorBody s

end Sys2Proof.Machine
end

