-- ==== Sys2Proof/Machine/Branch.lean ====
section
/-! DEFINITION. The conditional branches (spec/47_branch.md rules R200 to R208): the common body is `runBranch`. -/

namespace Sys2Proof.Machine

/-- `SR.C == 0` (rule R201). -/
def bccTaken (s : State) : Bool := !s.flag .carry

/-- 0x90, relative. -/
def execBcc (n : Byte) (s : State) : Host.Outcome State Fault Refusal :=
  runBranch (.bcc n) bccTaken s

/-- `SR.C == 1` (rule R202). -/
def bcsTaken (s : State) : Bool := s.flag .carry

/-- 0xB0, relative. -/
def execBcs (n : Byte) (s : State) : Host.Outcome State Fault Refusal :=
  runBranch (.bcs n) bcsTaken s

/-- `SR.Z == 1` (rule R203). -/
def beqTaken (s : State) : Bool := s.flag .zero

/-- 0xF0, relative. -/
def execBeq (n : Byte) (s : State) : Host.Outcome State Fault Refusal :=
  runBranch (.beq n) beqTaken s

/-- `SR.Z == 0` (rule R204). -/
def bneTaken (s : State) : Bool := !s.flag .zero

/-- 0xD0, relative. -/
def execBne (n : Byte) (s : State) : Host.Outcome State Fault Refusal :=
  runBranch (.bne n) bneTaken s

/-- `SR.N == 1` (rule R205). -/
def bmiTaken (s : State) : Bool := s.flag .negative

/-- 0x30, relative. -/
def execBmi (n : Byte) (s : State) : Host.Outcome State Fault Refusal :=
  runBranch (.bmi n) bmiTaken s

/-- `SR.N == 0` (rule R206). -/
def bplTaken (s : State) : Bool := !s.flag .negative

/-- 0x10, relative. -/
def execBpl (n : Byte) (s : State) : Host.Outcome State Fault Refusal :=
  runBranch (.bpl n) bplTaken s

/-- `SR.V == 0` (rule R207). -/
def bvcTaken (s : State) : Bool := !s.flag .overflow

/-- 0x50, relative. -/
def execBvc (n : Byte) (s : State) : Host.Outcome State Fault Refusal :=
  runBranch (.bvc n) bvcTaken s

/-- `SR.V == 1` (rule R208). -/
def bvsTaken (s : State) : Bool := s.flag .overflow

/-- 0x70, relative. -/
def execBvs (n : Byte) (s : State) : Host.Outcome State Fault Refusal :=
  runBranch (.bvs n) bvsTaken s

end Sys2Proof.Machine
end

