-- ==== Sys2Proof/Machine/CompareBit.lean ====
section
/-! DEFINITION. Bit test and compares, which write flags only (spec/46_compare_bit.md rules R190 to R193). -/

namespace Sys2Proof.Machine

/-- The common compare (rule R191): `SR.C <- (reg >= v); SetNZ((reg - v) & 0xFF)`; the old carry is no
input, V is not written and no register changes. -/
def compare (reg v : Byte) (s : State) : State :=
  (s.setFlag .carry (compareCarry reg v)).setNZ (reg - v)

/-- BIT (rule R190): N and V are bits of the operand, Z is of `A & operand`; A is not changed. -/
def bitBody (v : Byte) (s : State) : State :=
  ((s.setFlag .zero (s.a &&& v == 0#8)).setFlag .negative (v.getLsbD 7)).setFlag .overflow
    (v.getLsbD 6)

/-- 0x24, zero-page. -/
def execBitZeroPage (n : Byte) (s : State) : Host.Outcome State Fault Refusal :=
  runValue (.bitZeroPage n) bitBody s

/-- 0x2C, absolute. -/
def execBitAbsolute (w : Word) (s : State) : Host.Outcome State Fault Refusal :=
  runValue (.bitAbsolute w) bitBody s

/-- CMP (rule R191): reg = A. -/
def cmpBody (v : Byte) (s : State) : State := compare s.a v s

/-- 0xC9, immediate. -/
def execCmpImmediate (n : Byte) (s : State) : Host.Outcome State Fault Refusal :=
  runValue (.cmpImmediate n) cmpBody s

/-- 0xC5, zero-page. -/
def execCmpZeroPage (n : Byte) (s : State) : Host.Outcome State Fault Refusal :=
  runValue (.cmpZeroPage n) cmpBody s

/-- 0xD5, zero-page,X. -/
def execCmpZeroPageX (n : Byte) (s : State) : Host.Outcome State Fault Refusal :=
  runValue (.cmpZeroPageX n) cmpBody s

/-- 0xCD, absolute. -/
def execCmpAbsolute (w : Word) (s : State) : Host.Outcome State Fault Refusal :=
  runValue (.cmpAbsolute w) cmpBody s

/-- 0xDD, absolute,X. -/
def execCmpAbsoluteX (w : Word) (s : State) : Host.Outcome State Fault Refusal :=
  runValue (.cmpAbsoluteX w) cmpBody s

/-- 0xD9, absolute,Y. -/
def execCmpAbsoluteY (w : Word) (s : State) : Host.Outcome State Fault Refusal :=
  runValue (.cmpAbsoluteY w) cmpBody s

/-- 0xC1, (indirect,X). -/
def execCmpIndirectX (n : Byte) (s : State) : Host.Outcome State Fault Refusal :=
  runValue (.cmpIndirectX n) cmpBody s

/-- 0xD1, (indirect),Y. -/
def execCmpIndirectY (n : Byte) (s : State) : Host.Outcome State Fault Refusal :=
  runValue (.cmpIndirectY n) cmpBody s

/-- CPX (rule R192): reg = X. -/
def cpxBody (v : Byte) (s : State) : State := compare s.x v s

/-- 0xE0, immediate. -/
def execCpxImmediate (n : Byte) (s : State) : Host.Outcome State Fault Refusal :=
  runValue (.cpxImmediate n) cpxBody s

/-- 0xE4, zero-page. -/
def execCpxZeroPage (n : Byte) (s : State) : Host.Outcome State Fault Refusal :=
  runValue (.cpxZeroPage n) cpxBody s

/-- 0xEC, absolute. -/
def execCpxAbsolute (w : Word) (s : State) : Host.Outcome State Fault Refusal :=
  runValue (.cpxAbsolute w) cpxBody s

/-- CPY (rule R193): reg = Y. -/
def cpyBody (v : Byte) (s : State) : State := compare s.y v s

/-- 0xC0, immediate. -/
def execCpyImmediate (n : Byte) (s : State) : Host.Outcome State Fault Refusal :=
  runValue (.cpyImmediate n) cpyBody s

/-- 0xC4, zero-page. -/
def execCpyZeroPage (n : Byte) (s : State) : Host.Outcome State Fault Refusal :=
  runValue (.cpyZeroPage n) cpyBody s

/-- 0xCC, absolute. -/
def execCpyAbsolute (w : Word) (s : State) : Host.Outcome State Fault Refusal :=
  runValue (.cpyAbsolute w) cpyBody s

end Sys2Proof.Machine
end

