-- ==== Sys2Proof/Machine/FlagInstr.lean ====
section
/-! DEFINITION. The instructions that set or clear one flag (spec/48_flags.md rules R210 to R216). -/

namespace Sys2Proof.Machine

/-- `SR.C <- 0` (rule R210). -/
def clcBody (s : State) : State := s.setFlag .carry false

/-- 0x18, implied. -/
def execClc (s : State) : Host.Outcome State Fault Refusal :=
  runImplied .clc clcBody s

/-- `SR.C <- 1` (rule R211). -/
def secBody (s : State) : State := s.setFlag .carry true

/-- 0x38, implied. -/
def execSec (s : State) : Host.Outcome State Fault Refusal :=
  runImplied .sec secBody s

/-- `SR.D <- 0` (rule R212). -/
def cldBody (s : State) : State := s.setFlag .decimal false

/-- 0xD8, implied. -/
def execCld (s : State) : Host.Outcome State Fault Refusal :=
  runImplied .cld cldBody s

/-- `SR.D <- 1` (rule R213). -/
def sedBody (s : State) : State := s.setFlag .decimal true

/-- 0xF8, implied. -/
def execSed (s : State) : Host.Outcome State Fault Refusal :=
  runImplied .sed sedBody s

/-- `SR.I <- 0` (rule R214). -/
def cliBody (s : State) : State := s.setFlag .interruptDisable false

/-- 0x58, implied. -/
def execCli (s : State) : Host.Outcome State Fault Refusal :=
  runImplied .cli cliBody s

/-- `SR.I <- 1` (rule R215). -/
def seiBody (s : State) : State := s.setFlag .interruptDisable true

/-- 0x78, implied. -/
def execSei (s : State) : Host.Outcome State Fault Refusal :=
  runImplied .sei seiBody s

/-- `SR.V <- 0` (rule R216). -/
def clvBody (s : State) : State := s.setFlag .overflow false

/-- 0xB8, implied. -/
def execClv (s : State) : Host.Outcome State Fault Refusal :=
  runImplied .clv clvBody s

end Sys2Proof.Machine
end

