-- ==== Sys2Proof/Machine/IncDec.lean ====
section
/-! DEFINITION. Increment and decrement (spec/44_incdec.md rules R170 to R175). -/

namespace Sys2Proof.Machine

/-- INC (rule R170): plus 1 mod 256, no carry. -/
def incResult (v : Byte) (_ : State) : Byte := v + 1

/-- The flag writes of INC from the result `r`. -/
def incFlags (_ r : Byte) (s : State) : State := s.setNZ r

/-- 0xE6, zero-page. -/
def execIncZeroPage (n : Byte) (s : State) : Host.Outcome State Fault Refusal :=
  runModify (.incZeroPage n) incResult incFlags s

/-- 0xF6, zero-page,X. -/
def execIncZeroPageX (n : Byte) (s : State) : Host.Outcome State Fault Refusal :=
  runModify (.incZeroPageX n) incResult incFlags s

/-- 0xEE, absolute. -/
def execIncAbsolute (w : Word) (s : State) : Host.Outcome State Fault Refusal :=
  runModify (.incAbsolute w) incResult incFlags s

/-- 0xFE, absolute,X. -/
def execIncAbsoluteX (w : Word) (s : State) : Host.Outcome State Fault Refusal :=
  runModify (.incAbsoluteX w) incResult incFlags s

/-- DEC (rule R171): minus 1 mod 256, no borrow. -/
def decResult (v : Byte) (_ : State) : Byte := v - 1

/-- The flag writes of DEC from the result `r`. -/
def decFlags (_ r : Byte) (s : State) : State := s.setNZ r

/-- 0xC6, zero-page. -/
def execDecZeroPage (n : Byte) (s : State) : Host.Outcome State Fault Refusal :=
  runModify (.decZeroPage n) decResult decFlags s

/-- 0xD6, zero-page,X. -/
def execDecZeroPageX (n : Byte) (s : State) : Host.Outcome State Fault Refusal :=
  runModify (.decZeroPageX n) decResult decFlags s

/-- 0xCE, absolute. -/
def execDecAbsolute (w : Word) (s : State) : Host.Outcome State Fault Refusal :=
  runModify (.decAbsolute w) decResult decFlags s

/-- 0xDE, absolute,X. -/
def execDecAbsoluteX (w : Word) (s : State) : Host.Outcome State Fault Refusal :=
  runModify (.decAbsoluteX w) decResult decFlags s

/-- `X <- (X + 1) & 0xFF; SetNZ(X)` (rule R172). -/
def inxBody (s : State) : State := (s.setX (s.x + 1)).setNZ (s.x + 1)

/-- 0xE8, implied. -/
def execInx (s : State) : Host.Outcome State Fault Refusal :=
  runImplied .inx inxBody s

/-- `Y <- (Y + 1) & 0xFF; SetNZ(Y)` (rule R173). -/
def inyBody (s : State) : State := (s.setY (s.y + 1)).setNZ (s.y + 1)

/-- 0xC8, implied. -/
def execIny (s : State) : Host.Outcome State Fault Refusal :=
  runImplied .iny inyBody s

/-- `X <- (X - 1) & 0xFF; SetNZ(X)` (rule R174). -/
def dexBody (s : State) : State := (s.setX (s.x - 1)).setNZ (s.x - 1)

/-- 0xCA, implied. -/
def execDex (s : State) : Host.Outcome State Fault Refusal :=
  runImplied .dex dexBody s

/-- `Y <- (Y - 1) & 0xFF; SetNZ(Y)` (rule R175). -/
def deyBody (s : State) : State := (s.setY (s.y - 1)).setNZ (s.y - 1)

/-- 0x88, implied. -/
def execDey (s : State) : Host.Outcome State Fault Refusal :=
  runImplied .dey deyBody s

end Sys2Proof.Machine
end

