-- ==== Sys2Proof/Machine/JumpStack.lean ====
section
/-! DEFINITION. Jumps, subroutines, the software interrupt and its return, the stack and NOP
(spec/49_jump_stack_system.md rules R220 to R229). -/

namespace Sys2Proof.Machine

/-- `PC <- a` (rule R221). -/
def jmpBody (a : Word) (s : State) : State := s.setPc a

/-- 0x4C, absolute. -/
def execJmpAbsolute (w : Word) (s : State) : Host.Outcome State Fault Refusal :=
  runAddress (.jmpAbsolute w) jmpBody s

/-- 0x6C, indirect. -/
def execJmpIndirect (w : Word) (s : State) : Host.Outcome State Fault Refusal :=
  runAddress (.jmpIndirect w) jmpBody s

/-- `PushWord((PC + 1) & 0xFFFF); PC <- a` (rule R222): both operand bytes were read before the pushes. -/
def jsrBody (a : Word) (s : State) : State := (s.pushWord (s.pc + 1)).setPc a

/-- 0x20, absolute. -/
def execJsrAbsolute (w : Word) (s : State) : Host.Outcome State Fault Refusal :=
  runAddress (.jsrAbsolute w) jsrBody s

/-- `w <- PopWord(); PC <- (w + 1) & 0xFFFF` (rule R223). -/
def rtsBody (s : State) : State :=
  let (t, w) := s.popWord
  t.setPc (w + 1)

/-- 0x60, implied. -/
def execRts (s : State) : Host.Outcome State Fault Refusal :=
  runImplied .rts rtsBody s

/-- BRK (rule R220) takes the trap. -/
def brkBody (s : State) : State := s.takeTrap

/-- 0x00, implied. -/
def execBrk (s : State) : Host.Outcome State Fault Refusal :=
  runImplied .brk brkBody s

/-- RTI (rule R224) returns from the trap. -/
def rtiBody (s : State) : State := s.returnFromTrap

/-- 0x40, implied. -/
def execRti (s : State) : Host.Outcome State Fault Refusal :=
  runImplied .rti rtiBody s

/-- `Push(A)` (rule R225). -/
def phaBody (s : State) : State := s.push s.a

/-- 0x48, implied. -/
def execPha (s : State) : Host.Outcome State Fault Refusal :=
  runImplied .pha phaBody s

/-- `Push(SR | 0x30)` (rule R226): SR itself is not changed. -/
def phpBody (s : State) : State := s.push (s.readSr ||| 0x30#8)

/-- 0x08, implied. -/
def execPhp (s : State) : Host.Outcome State Fault Refusal :=
  runImplied .php phpBody s

/-- `A <- Pop(); SetNZ(A)` (rule R227). -/
def plaBody (s : State) : State :=
  let (t, v) := s.pop
  (t.setA v).setNZ v

/-- 0x68, implied. -/
def execPla (s : State) : Host.Outcome State Fault Refusal :=
  runImplied .pla plaBody s

/-- `SR <- Pop()` (rule R228): every bit from the popped byte but bit 5, which is forced to 1. -/
def plpBody (s : State) : State :=
  let (t, v) := s.pop
  t.setSr v

/-- 0x28, implied. -/
def execPlp (s : State) : Host.Outcome State Fault Refusal :=
  runImplied .plp plpBody s

/-- Nothing (rule R229). -/
def nopBody (s : State) : State := s

/-- 0xEA, implied. -/
def execNop (s : State) : Host.Outcome State Fault Refusal :=
  runImplied .nop nopBody s

end Sys2Proof.Machine
end

