-- ==== Sys2Proof/Machine/LoadStore.lean ====
section
/-! DEFINITION. The load and store instructions (spec/41_load_store.md rules R140 to R145). -/

namespace Sys2Proof.Machine

/-- `A <- ReadOp(op); SetNZ(A)` (rule R140). -/
def ldaBody (v : Byte) (s : State) : State := (s.setA v).setNZ v

/-- 0xA9, immediate. -/
def execLdaImmediate (n : Byte) (s : State) : Host.Outcome State Fault Refusal :=
  runValue (.ldaImmediate n) ldaBody s

/-- 0xA5, zero-page. -/
def execLdaZeroPage (n : Byte) (s : State) : Host.Outcome State Fault Refusal :=
  runValue (.ldaZeroPage n) ldaBody s

/-- 0xB5, zero-page,X. -/
def execLdaZeroPageX (n : Byte) (s : State) : Host.Outcome State Fault Refusal :=
  runValue (.ldaZeroPageX n) ldaBody s

/-- 0xAD, absolute. -/
def execLdaAbsolute (w : Word) (s : State) : Host.Outcome State Fault Refusal :=
  runValue (.ldaAbsolute w) ldaBody s

/-- 0xBD, absolute,X. -/
def execLdaAbsoluteX (w : Word) (s : State) : Host.Outcome State Fault Refusal :=
  runValue (.ldaAbsoluteX w) ldaBody s

/-- 0xB9, absolute,Y. -/
def execLdaAbsoluteY (w : Word) (s : State) : Host.Outcome State Fault Refusal :=
  runValue (.ldaAbsoluteY w) ldaBody s

/-- 0xA1, (indirect,X). -/
def execLdaIndirectX (n : Byte) (s : State) : Host.Outcome State Fault Refusal :=
  runValue (.ldaIndirectX n) ldaBody s

/-- 0xB1, (indirect),Y. -/
def execLdaIndirectY (n : Byte) (s : State) : Host.Outcome State Fault Refusal :=
  runValue (.ldaIndirectY n) ldaBody s

/-- `X <- ReadOp(op); SetNZ(X)` (rule R142). -/
def ldxBody (v : Byte) (s : State) : State := (s.setX v).setNZ v

/-- 0xA2, immediate. -/
def execLdxImmediate (n : Byte) (s : State) : Host.Outcome State Fault Refusal :=
  runValue (.ldxImmediate n) ldxBody s

/-- 0xA6, zero-page. -/
def execLdxZeroPage (n : Byte) (s : State) : Host.Outcome State Fault Refusal :=
  runValue (.ldxZeroPage n) ldxBody s

/-- 0xB6, zero-page,Y. -/
def execLdxZeroPageY (n : Byte) (s : State) : Host.Outcome State Fault Refusal :=
  runValue (.ldxZeroPageY n) ldxBody s

/-- 0xAE, absolute. -/
def execLdxAbsolute (w : Word) (s : State) : Host.Outcome State Fault Refusal :=
  runValue (.ldxAbsolute w) ldxBody s

/-- 0xBE, absolute,Y. -/
def execLdxAbsoluteY (w : Word) (s : State) : Host.Outcome State Fault Refusal :=
  runValue (.ldxAbsoluteY w) ldxBody s

/-- `Y <- ReadOp(op); SetNZ(Y)` (rule R143). -/
def ldyBody (v : Byte) (s : State) : State := (s.setY v).setNZ v

/-- 0xA0, immediate. -/
def execLdyImmediate (n : Byte) (s : State) : Host.Outcome State Fault Refusal :=
  runValue (.ldyImmediate n) ldyBody s

/-- 0xA4, zero-page. -/
def execLdyZeroPage (n : Byte) (s : State) : Host.Outcome State Fault Refusal :=
  runValue (.ldyZeroPage n) ldyBody s

/-- 0xB4, zero-page,X. -/
def execLdyZeroPageX (n : Byte) (s : State) : Host.Outcome State Fault Refusal :=
  runValue (.ldyZeroPageX n) ldyBody s

/-- 0xAC, absolute. -/
def execLdyAbsolute (w : Word) (s : State) : Host.Outcome State Fault Refusal :=
  runValue (.ldyAbsolute w) ldyBody s

/-- 0xBC, absolute,X. -/
def execLdyAbsoluteX (w : Word) (s : State) : Host.Outcome State Fault Refusal :=
  runValue (.ldyAbsoluteX w) ldyBody s

/-- `WriteOp(op, A)` (rule R141): the byte stored. No flag is written. -/
def staValue (s : State) : Byte := s.a

/-- 0x85, zero-page. -/
def execStaZeroPage (n : Byte) (s : State) : Host.Outcome State Fault Refusal :=
  runStore (.staZeroPage n) staValue s

/-- 0x95, zero-page,X. -/
def execStaZeroPageX (n : Byte) (s : State) : Host.Outcome State Fault Refusal :=
  runStore (.staZeroPageX n) staValue s

/-- 0x8D, absolute. -/
def execStaAbsolute (w : Word) (s : State) : Host.Outcome State Fault Refusal :=
  runStore (.staAbsolute w) staValue s

/-- 0x9D, absolute,X. -/
def execStaAbsoluteX (w : Word) (s : State) : Host.Outcome State Fault Refusal :=
  runStore (.staAbsoluteX w) staValue s

/-- 0x99, absolute,Y. -/
def execStaAbsoluteY (w : Word) (s : State) : Host.Outcome State Fault Refusal :=
  runStore (.staAbsoluteY w) staValue s

/-- 0x81, (indirect,X). -/
def execStaIndirectX (n : Byte) (s : State) : Host.Outcome State Fault Refusal :=
  runStore (.staIndirectX n) staValue s

/-- 0x91, (indirect),Y. -/
def execStaIndirectY (n : Byte) (s : State) : Host.Outcome State Fault Refusal :=
  runStore (.staIndirectY n) staValue s

/-- `WriteOp(op, X)` (rule R144): the byte stored. No flag is written. -/
def stxValue (s : State) : Byte := s.x

/-- 0x86, zero-page. -/
def execStxZeroPage (n : Byte) (s : State) : Host.Outcome State Fault Refusal :=
  runStore (.stxZeroPage n) stxValue s

/-- 0x96, zero-page,Y. -/
def execStxZeroPageY (n : Byte) (s : State) : Host.Outcome State Fault Refusal :=
  runStore (.stxZeroPageY n) stxValue s

/-- 0x8E, absolute. -/
def execStxAbsolute (w : Word) (s : State) : Host.Outcome State Fault Refusal :=
  runStore (.stxAbsolute w) stxValue s

/-- `WriteOp(op, Y)` (rule R145): the byte stored. No flag is written. -/
def styValue (s : State) : Byte := s.y

/-- 0x84, zero-page. -/
def execStyZeroPage (n : Byte) (s : State) : Host.Outcome State Fault Refusal :=
  runStore (.styZeroPage n) styValue s

/-- 0x94, zero-page,X. -/
def execStyZeroPageX (n : Byte) (s : State) : Host.Outcome State Fault Refusal :=
  runStore (.styZeroPageX n) styValue s

/-- 0x8C, absolute. -/
def execStyAbsolute (w : Word) (s : State) : Host.Outcome State Fault Refusal :=
  runStore (.styAbsolute w) styValue s

end Sys2Proof.Machine
end

