-- ==== Sys2Proof/Machine/Shift.lean ====
section
/-! DEFINITION. The shifts and rotates by one bit (spec/43_shift_rotate.md rules R160 to R163). -/

namespace Sys2Proof.Machine

/-- The flags of the four (spec/43_shift_rotate.md): C from the bit shifted out, N and Z from the
result; V unchanged. -/
def shiftFlags (out : Bool) (r : Byte) (s : State) : State := (s.setFlag .carry out).setNZ r

/-- ASL (rule R160): C from old bit 7, 0 shifted in. -/
def aslResult (v : Byte) (_ : State) : Byte := shiftLeft v

/-- The flag writes of ASL from the operand `v` before and the result `r`. -/
def aslFlags (v r : Byte) (s : State) : State := shiftFlags (v.getLsbD 7) r s

/-- 0x0A, accumulator. -/
def execAslAccumulator (s : State) : Host.Outcome State Fault Refusal :=
  runModify .aslAccumulator aslResult aslFlags s

/-- 0x06, zero-page. -/
def execAslZeroPage (n : Byte) (s : State) : Host.Outcome State Fault Refusal :=
  runModify (.aslZeroPage n) aslResult aslFlags s

/-- 0x16, zero-page,X. -/
def execAslZeroPageX (n : Byte) (s : State) : Host.Outcome State Fault Refusal :=
  runModify (.aslZeroPageX n) aslResult aslFlags s

/-- 0x0E, absolute. -/
def execAslAbsolute (w : Word) (s : State) : Host.Outcome State Fault Refusal :=
  runModify (.aslAbsolute w) aslResult aslFlags s

/-- 0x1E, absolute,X. -/
def execAslAbsoluteX (w : Word) (s : State) : Host.Outcome State Fault Refusal :=
  runModify (.aslAbsoluteX w) aslResult aslFlags s

/-- LSR (rule R161): C from old bit 0, 0 shifted in. -/
def lsrResult (v : Byte) (_ : State) : Byte := shiftRight v

/-- The flag writes of LSR from the operand `v` before and the result `r`. -/
def lsrFlags (v r : Byte) (s : State) : State := shiftFlags (v.getLsbD 0) r s

/-- 0x4A, accumulator. -/
def execLsrAccumulator (s : State) : Host.Outcome State Fault Refusal :=
  runModify .lsrAccumulator lsrResult lsrFlags s

/-- 0x46, zero-page. -/
def execLsrZeroPage (n : Byte) (s : State) : Host.Outcome State Fault Refusal :=
  runModify (.lsrZeroPage n) lsrResult lsrFlags s

/-- 0x56, zero-page,X. -/
def execLsrZeroPageX (n : Byte) (s : State) : Host.Outcome State Fault Refusal :=
  runModify (.lsrZeroPageX n) lsrResult lsrFlags s

/-- 0x4E, absolute. -/
def execLsrAbsolute (w : Word) (s : State) : Host.Outcome State Fault Refusal :=
  runModify (.lsrAbsolute w) lsrResult lsrFlags s

/-- 0x5E, absolute,X. -/
def execLsrAbsoluteX (w : Word) (s : State) : Host.Outcome State Fault Refusal :=
  runModify (.lsrAbsoluteX w) lsrResult lsrFlags s

/-- ROL (rule R162): C from old bit 7, the old C shifted in. -/
def rolResult (v : Byte) (s : State) : Byte := rotateLeft v (s.flag .carry)

/-- The flag writes of ROL from the operand `v` before and the result `r`. -/
def rolFlags (v r : Byte) (s : State) : State := shiftFlags (v.getLsbD 7) r s

/-- 0x2A, accumulator. -/
def execRolAccumulator (s : State) : Host.Outcome State Fault Refusal :=
  runModify .rolAccumulator rolResult rolFlags s

/-- 0x26, zero-page. -/
def execRolZeroPage (n : Byte) (s : State) : Host.Outcome State Fault Refusal :=
  runModify (.rolZeroPage n) rolResult rolFlags s

/-- 0x36, zero-page,X. -/
def execRolZeroPageX (n : Byte) (s : State) : Host.Outcome State Fault Refusal :=
  runModify (.rolZeroPageX n) rolResult rolFlags s

/-- 0x2E, absolute. -/
def execRolAbsolute (w : Word) (s : State) : Host.Outcome State Fault Refusal :=
  runModify (.rolAbsolute w) rolResult rolFlags s

/-- 0x3E, absolute,X. -/
def execRolAbsoluteX (w : Word) (s : State) : Host.Outcome State Fault Refusal :=
  runModify (.rolAbsoluteX w) rolResult rolFlags s

/-- ROR (rule R163): C from old bit 0, the old C shifted in. -/
def rorResult (v : Byte) (s : State) : Byte := rotateRight v (s.flag .carry)

/-- The flag writes of ROR from the operand `v` before and the result `r`. -/
def rorFlags (v r : Byte) (s : State) : State := shiftFlags (v.getLsbD 0) r s

/-- 0x6A, accumulator. -/
def execRorAccumulator (s : State) : Host.Outcome State Fault Refusal :=
  runModify .rorAccumulator rorResult rorFlags s

/-- 0x66, zero-page. -/
def execRorZeroPage (n : Byte) (s : State) : Host.Outcome State Fault Refusal :=
  runModify (.rorZeroPage n) rorResult rorFlags s

/-- 0x76, zero-page,X. -/
def execRorZeroPageX (n : Byte) (s : State) : Host.Outcome State Fault Refusal :=
  runModify (.rorZeroPageX n) rorResult rorFlags s

/-- 0x6E, absolute. -/
def execRorAbsolute (w : Word) (s : State) : Host.Outcome State Fault Refusal :=
  runModify (.rorAbsolute w) rorResult rorFlags s

/-- 0x7E, absolute,X. -/
def execRorAbsoluteX (w : Word) (s : State) : Host.Outcome State Fault Refusal :=
  runModify (.rorAbsoluteX w) rorResult rorFlags s

end Sys2Proof.Machine
end

