-- ==== Sys2Proof/Machine/Transfer.lean ====
section
/-! DEFINITION. The register transfers (spec/45_transfer.md rules R180 to R185). -/

namespace Sys2Proof.Machine

/-- `X <- A; SetNZ(X)` (rule R180). -/
def taxBody (s : State) : State := (s.setX s.a).setNZ s.a

/-- 0xAA, implied. -/
def execTax (s : State) : Host.Outcome State Fault Refusal :=
  runImplied .tax taxBody s

/-- `Y <- A; SetNZ(Y)` (rule R181). -/
def tayBody (s : State) : State := (s.setY s.a).setNZ s.a

/-- 0xA8, implied. -/
def execTay (s : State) : Host.Outcome State Fault Refusal :=
  runImplied .tay tayBody s

/-- `A <- X; SetNZ(A)` (rule R182). -/
def txaBody (s : State) : State := (s.setA s.x).setNZ s.x

/-- 0x8A, implied. -/
def execTxa (s : State) : Host.Outcome State Fault Refusal :=
  runImplied .txa txaBody s

/-- `A <- Y; SetNZ(A)` (rule R183). -/
def tyaBody (s : State) : State := (s.setA s.y).setNZ s.y

/-- 0x98, implied. -/
def execTya (s : State) : Host.Outcome State Fault Refusal :=
  runImplied .tya tyaBody s

/-- `X <- SP; SetNZ(X)` (rule R184). -/
def tsxBody (s : State) : State := (s.setX s.sp).setNZ s.sp

/-- 0xBA, implied. -/
def execTsx (s : State) : Host.Outcome State Fault Refusal :=
  runImplied .tsx tsxBody s

/-- `SP <- X` (rule R185): the one transfer that writes no flag. -/
def txsBody (s : State) : State := s.setSp s.x

/-- 0x9A, implied. -/
def execTxs (s : State) : Host.Outcome State Fault Refusal :=
  runImplied .txs txsBody s

end Sys2Proof.Machine
end

