-- ==== Sys2Proof/Machine/Dispatch.lean ====
section
/-! DEFINITION. The meaning of every instruction, one arm per constructor of `Instr`. -/

namespace Sys2Proof.Machine

def exec (i : Instr) (s : State) : Host.Outcome State Fault Refusal :=
  match i with
  | .ldaImmediate n => Sys2Proof.Machine.execLdaImmediate n s
  | .ldaZeroPage n => Sys2Proof.Machine.execLdaZeroPage n s
  | .ldaZeroPageX n => Sys2Proof.Machine.execLdaZeroPageX n s
  | .ldaAbsolute w => Sys2Proof.Machine.execLdaAbsolute w s
  | .ldaAbsoluteX w => Sys2Proof.Machine.execLdaAbsoluteX w s
  | .ldaAbsoluteY w => Sys2Proof.Machine.execLdaAbsoluteY w s
  | .ldaIndirectX n => Sys2Proof.Machine.execLdaIndirectX n s
  | .ldaIndirectY n => Sys2Proof.Machine.execLdaIndirectY n s
  | .ldxImmediate n => Sys2Proof.Machine.execLdxImmediate n s
  | .ldxZeroPage n => Sys2Proof.Machine.execLdxZeroPage n s
  | .ldxZeroPageY n => Sys2Proof.Machine.execLdxZeroPageY n s
  | .ldxAbsolute w => Sys2Proof.Machine.execLdxAbsolute w s
  | .ldxAbsoluteY w => Sys2Proof.Machine.execLdxAbsoluteY w s
  | .ldyImmediate n => Sys2Proof.Machine.execLdyImmediate n s
  | .ldyZeroPage n => Sys2Proof.Machine.execLdyZeroPage n s
  | .ldyZeroPageX n => Sys2Proof.Machine.execLdyZeroPageX n s
  | .ldyAbsolute w => Sys2Proof.Machine.execLdyAbsolute w s
  | .ldyAbsoluteX w => Sys2Proof.Machine.execLdyAbsoluteX w s
  | .staZeroPage n => Sys2Proof.Machine.execStaZeroPage n s
  | .staZeroPageX n => Sys2Proof.Machine.execStaZeroPageX n s
  | .staAbsolute w => Sys2Proof.Machine.execStaAbsolute w s
  | .staAbsoluteX w => Sys2Proof.Machine.execStaAbsoluteX w s
  | .staAbsoluteY w => Sys2Proof.Machine.execStaAbsoluteY w s
  | .staIndirectX n => Sys2Proof.Machine.execStaIndirectX n s
  | .staIndirectY n => Sys2Proof.Machine.execStaIndirectY n s
  | .stxZeroPage n => Sys2Proof.Machine.execStxZeroPage n s
  | .stxZeroPageY n => Sys2Proof.Machine.execStxZeroPageY n s
  | .stxAbsolute w => Sys2Proof.Machine.execStxAbsolute w s
  | .styZeroPage n => Sys2Proof.Machine.execStyZeroPage n s
  | .styZeroPageX n => Sys2Proof.Machine.execStyZeroPageX n s
  | .styAbsolute w => Sys2Proof.Machine.execStyAbsolute w s
  | .adcImmediate n => Sys2Proof.Machine.execAdcImmediate n s
  | .adcZeroPage n => Sys2Proof.Machine.execAdcZeroPage n s
  | .adcZeroPageX n => Sys2Proof.Machine.execAdcZeroPageX n s
  | .adcAbsolute w => Sys2Proof.Machine.execAdcAbsolute w s
  | .adcAbsoluteX w => Sys2Proof.Machine.execAdcAbsoluteX w s
  | .adcAbsoluteY w => Sys2Proof.Machine.execAdcAbsoluteY w s
  | .adcIndirectX n => Sys2Proof.Machine.execAdcIndirectX n s
  | .adcIndirectY n => Sys2Proof.Machine.execAdcIndirectY n s
  | .sbcImmediate n => Sys2Proof.Machine.execSbcImmediate n s
  | .sbcZeroPage n => Sys2Proof.Machine.execSbcZeroPage n s
  | .sbcZeroPageX n => Sys2Proof.Machine.execSbcZeroPageX n s
  | .sbcAbsolute w => Sys2Proof.Machine.execSbcAbsolute w s
  | .sbcAbsoluteX w => Sys2Proof.Machine.execSbcAbsoluteX w s
  | .sbcAbsoluteY w => Sys2Proof.Machine.execSbcAbsoluteY w s
  | .sbcIndirectX n => Sys2Proof.Machine.execSbcIndirectX n s
  | .sbcIndirectY n => Sys2Proof.Machine.execSbcIndirectY n s
  | .andImmediate n => Sys2Proof.Machine.execAndImmediate n s
  | .andZeroPage n => Sys2Proof.Machine.execAndZeroPage n s
  | .andZeroPageX n => Sys2Proof.Machine.execAndZeroPageX n s
  | .andAbsolute w => Sys2Proof.Machine.execAndAbsolute w s
  | .andAbsoluteX w => Sys2Proof.Machine.execAndAbsoluteX w s
  | .andAbsoluteY w => Sys2Proof.Machine.execAndAbsoluteY w s
  | .andIndirectX n => Sys2Proof.Machine.execAndIndirectX n s
  | .andIndirectY n => Sys2Proof.Machine.execAndIndirectY n s
  | .oraImmediate n => Sys2Proof.Machine.execOraImmediate n s
  | .oraZeroPage n => Sys2Proof.Machine.execOraZeroPage n s
  | .oraZeroPageX n => Sys2Proof.Machine.execOraZeroPageX n s
  | .oraAbsolute w => Sys2Proof.Machine.execOraAbsolute w s
  | .oraAbsoluteX w => Sys2Proof.Machine.execOraAbsoluteX w s
  | .oraAbsoluteY w => Sys2Proof.Machine.execOraAbsoluteY w s
  | .oraIndirectX n => Sys2Proof.Machine.execOraIndirectX n s
  | .oraIndirectY n => Sys2Proof.Machine.execOraIndirectY n s
  | .eorImmediate n => Sys2Proof.Machine.execEorImmediate n s
  | .eorZeroPage n => Sys2Proof.Machine.execEorZeroPage n s
  | .eorZeroPageX n => Sys2Proof.Machine.execEorZeroPageX n s
  | .eorAbsolute w => Sys2Proof.Machine.execEorAbsolute w s
  | .eorAbsoluteX w => Sys2Proof.Machine.execEorAbsoluteX w s
  | .eorAbsoluteY w => Sys2Proof.Machine.execEorAbsoluteY w s
  | .eorIndirectX n => Sys2Proof.Machine.execEorIndirectX n s
  | .eorIndirectY n => Sys2Proof.Machine.execEorIndirectY n s
  | .aslAccumulator => Sys2Proof.Machine.execAslAccumulator s
  | .aslZeroPage n => Sys2Proof.Machine.execAslZeroPage n s
  | .aslZeroPageX n => Sys2Proof.Machine.execAslZeroPageX n s
  | .aslAbsolute w => Sys2Proof.Machine.execAslAbsolute w s
  | .aslAbsoluteX w => Sys2Proof.Machine.execAslAbsoluteX w s
  | .lsrAccumulator => Sys2Proof.Machine.execLsrAccumulator s
  | .lsrZeroPage n => Sys2Proof.Machine.execLsrZeroPage n s
  | .lsrZeroPageX n => Sys2Proof.Machine.execLsrZeroPageX n s
  | .lsrAbsolute w => Sys2Proof.Machine.execLsrAbsolute w s
  | .lsrAbsoluteX w => Sys2Proof.Machine.execLsrAbsoluteX w s
  | .rolAccumulator => Sys2Proof.Machine.execRolAccumulator s
  | .rolZeroPage n => Sys2Proof.Machine.execRolZeroPage n s
  | .rolZeroPageX n => Sys2Proof.Machine.execRolZeroPageX n s
  | .rolAbsolute w => Sys2Proof.Machine.execRolAbsolute w s
  | .rolAbsoluteX w => Sys2Proof.Machine.execRolAbsoluteX w s
  | .rorAccumulator => Sys2Proof.Machine.execRorAccumulator s
  | .rorZeroPage n => Sys2Proof.Machine.execRorZeroPage n s
  | .rorZeroPageX n => Sys2Proof.Machine.execRorZeroPageX n s
  | .rorAbsolute w => Sys2Proof.Machine.execRorAbsolute w s
  | .rorAbsoluteX w => Sys2Proof.Machine.execRorAbsoluteX w s
  | .incZeroPage n => Sys2Proof.Machine.execIncZeroPage n s
  | .incZeroPageX n => Sys2Proof.Machine.execIncZeroPageX n s
  | .incAbsolute w => Sys2Proof.Machine.execIncAbsolute w s
  | .incAbsoluteX w => Sys2Proof.Machine.execIncAbsoluteX w s
  | .decZeroPage n => Sys2Proof.Machine.execDecZeroPage n s
  | .decZeroPageX n => Sys2Proof.Machine.execDecZeroPageX n s
  | .decAbsolute w => Sys2Proof.Machine.execDecAbsolute w s
  | .decAbsoluteX w => Sys2Proof.Machine.execDecAbsoluteX w s
  | .inx => Sys2Proof.Machine.execInx s
  | .iny => Sys2Proof.Machine.execIny s
  | .dex => Sys2Proof.Machine.execDex s
  | .dey => Sys2Proof.Machine.execDey s
  | .tax => Sys2Proof.Machine.execTax s
  | .tay => Sys2Proof.Machine.execTay s
  | .txa => Sys2Proof.Machine.execTxa s
  | .tya => Sys2Proof.Machine.execTya s
  | .tsx => Sys2Proof.Machine.execTsx s
  | .txs => Sys2Proof.Machine.execTxs s
  | .bitZeroPage n => Sys2Proof.Machine.execBitZeroPage n s
  | .bitAbsolute w => Sys2Proof.Machine.execBitAbsolute w s
  | .cmpImmediate n => Sys2Proof.Machine.execCmpImmediate n s
  | .cmpZeroPage n => Sys2Proof.Machine.execCmpZeroPage n s
  | .cmpZeroPageX n => Sys2Proof.Machine.execCmpZeroPageX n s
  | .cmpAbsolute w => Sys2Proof.Machine.execCmpAbsolute w s
  | .cmpAbsoluteX w => Sys2Proof.Machine.execCmpAbsoluteX w s
  | .cmpAbsoluteY w => Sys2Proof.Machine.execCmpAbsoluteY w s
  | .cmpIndirectX n => Sys2Proof.Machine.execCmpIndirectX n s
  | .cmpIndirectY n => Sys2Proof.Machine.execCmpIndirectY n s
  | .cpxImmediate n => Sys2Proof.Machine.execCpxImmediate n s
  | .cpxZeroPage n => Sys2Proof.Machine.execCpxZeroPage n s
  | .cpxAbsolute w => Sys2Proof.Machine.execCpxAbsolute w s
  | .cpyImmediate n => Sys2Proof.Machine.execCpyImmediate n s
  | .cpyZeroPage n => Sys2Proof.Machine.execCpyZeroPage n s
  | .cpyAbsolute w => Sys2Proof.Machine.execCpyAbsolute w s
  | .bcc n => Sys2Proof.Machine.execBcc n s
  | .bcs n => Sys2Proof.Machine.execBcs n s
  | .beq n => Sys2Proof.Machine.execBeq n s
  | .bne n => Sys2Proof.Machine.execBne n s
  | .bmi n => Sys2Proof.Machine.execBmi n s
  | .bpl n => Sys2Proof.Machine.execBpl n s
  | .bvc n => Sys2Proof.Machine.execBvc n s
  | .bvs n => Sys2Proof.Machine.execBvs n s
  | .clc => Sys2Proof.Machine.execClc s
  | .sec => Sys2Proof.Machine.execSec s
  | .cld => Sys2Proof.Machine.execCld s
  | .sed => Sys2Proof.Machine.execSed s
  | .cli => Sys2Proof.Machine.execCli s
  | .sei => Sys2Proof.Machine.execSei s
  | .clv => Sys2Proof.Machine.execClv s
  | .brk => Sys2Proof.Machine.execBrk s
  | .jmpAbsolute w => Sys2Proof.Machine.execJmpAbsolute w s
  | .jmpIndirect w => Sys2Proof.Machine.execJmpIndirect w s
  | .jsrAbsolute w => Sys2Proof.Machine.execJsrAbsolute w s
  | .rts => Sys2Proof.Machine.execRts s
  | .rti => Sys2Proof.Machine.execRti s
  | .pha => Sys2Proof.Machine.execPha s
  | .php => Sys2Proof.Machine.execPhp s
  | .pla => Sys2Proof.Machine.execPla s
  | .plp => Sys2Proof.Machine.execPlp s
  | .nop => Sys2Proof.Machine.execNop s

end Sys2Proof.Machine
end

