-- ==== Sys2Proof/Machine/Fetch.lean ====
section
/-! DEFINITION. What surrounds `exec` in a step: the fetch of the instruction's bytes, the PC bump,
the fault of an undefined opcode (spec/40_driver_and_modes.md rules R101, R102), and the placing of
bytes at PC. -/

namespace Sys2Proof.Machine

/-- The three bytes at PC, PC + 1, PC + 2, modulo 2^16: the longest instruction. Only as many as the
opcode's length are used (spec/30_encoding.md rule R83); reads have no side effect
(spec/20_memory.md rule R60). -/
def fetchBytes (s : State) : List Byte :=
  [s.readByte s.pc, s.readByte (s.pc + 1), s.readByte (s.pc + 2)]

/-- Step 1's `PC <- (PC + 1) & 0xFFFF` (spec/40_driver_and_modes.md rule R101). -/
def bumpPc (s : State) : State := s.setPc (s.pc + 1)

/-- `UnknownOpcode(opc, pc0)`: the byte fetched and the address it was fetched from
(spec/60_exceptions.md rule R241). -/
def unknownOpcodeFault (s : State) : Fault := .unknownOpcode (s.readByte s.pc) s.pc

/-- The state the host finds after `UnknownOpcode` (spec/60_exceptions.md rule R241): as before the
step, except that PC is the opcode's address or that address + 1, by the open parameter
`UNK_PC_BUMP`. -/
def stateAfterUnknownOpcode (s : State) : State := if Config.unkPcBump then bumpPc s else s

/-- The bytes of an instruction whose bits are `w`, laid out from the lowest address, up to the
longest instruction; the bits above `nbits` are zero. -/
def tableWordBytes (nbits w : Nat) : List Byte :=
  let v := w % 2 ^ nbits
  [BitVec.ofNat 8 v, BitVec.ofNat 8 (v / 2 ^ 8), BitVec.ofNat 8 (v / 2 ^ 16)]

/-- `bytes` written from address `a` upward, modulo 2^16. -/
def writeBytes (s : State) (a : Word) : List Byte → State
  | [] => s
  | b :: bs => writeBytes (s.writeByte a b) (a + 1) bs

/-- `bytes` written at PC. -/
def placeBytes (s : State) (bytes : List Byte) : State := writeBytes s s.pc bytes

end Sys2Proof.Machine
end

