-- ==== Sys2Proof/Machine/Step.lean ====
section
/-! DEFINITION. One step of the machine, and the placing of an instruction where the step fetches. -/

namespace Sys2Proof.Machine

/-- One step: the driver of spec/40_driver_and_modes.md rule R100. Steps 1 and 2 are here, steps 3 to
6 in `exec`. A byte that selects an undefined slot ends the step in the fault of
spec/60_exceptions.md rule R241; the three fetched bytes are enough for every defined opcode, so no
other decode error arises. -/
def step (s : State) : Host.Outcome State Fault Refusal :=
  match decode (fetchBytes s) with
  | .ok (i, _) => exec i (bumpPc s)
  | .error _ => .fault (unknownOpcodeFault s)

/-- `s` with the instruction whose bits are `w` (bits above `nbits` zero) stored at PC. -/
def State.withFetchWord (s : State) (nbits w : Nat) : State :=
  placeBytes s (tableWordBytes nbits w)

end Sys2Proof.Machine
end

