-- ==== Sys2Proof/Machine/HostOps.lean ====
section
/-! DEFINITION. The host-facing operations of spec/70_reset_and_hazards.md rule R280: each is one
atomic operation between two steps (rule R281). Arguments are natural numbers, wrapped to the width
of the cell they go to (rule R282). -/

namespace Sys2Proof.Machine

/-- The result of the host's `step()` (spec/70_reset_and_hazards.md rule R284): the new cycle count,
or what ended the step. -/
inductive StepResult where
  | cycles (cc : Nat)
  | error (f : Fault)
  | refused (r : Refusal)
deriving DecidableEq, Repr

/-- `reset()` (rules R270, R271): whatever the state was. -/
def hostReset (_ : State) : State := State.reset

/-- `step()` (rule R284): the state the host finds afterwards and the result. After `UnknownOpcode`
only PC may differ (spec/60_exceptions.md rule R241). -/
def hostStep (s : State) : State × StepResult :=
  match step s with
  | .next t => (t, .cycles t.cc)
  | .fault f => (stateAfterUnknownOpcode s, .error f)
  | .refused r => (s, .refused r)

/-- `read_byte(addr)` (spec/20_memory.md rule R52): the address modulo 2^16. -/
def hostReadByte (addr : Nat) (s : State) : Byte := s.readByte (BitVec.ofNat 16 addr)

/-- `write_byte(addr, v)` (spec/20_memory.md rule R53). -/
def hostWriteByte (addr v : Nat) (s : State) : State :=
  s.writeByte (BitVec.ofNat 16 addr) (BitVec.ofNat 8 v)

/-- `read_word(addr, wrap_page)` (spec/20_memory.md rules R54, R55). -/
def hostReadWord (addr : Nat) (wrapPage : Bool) (s : State) : Word :=
  if wrapPage then s.readWordWrap (BitVec.ofNat 16 addr) else s.readWord (BitVec.ofNat 16 addr)

/-- `write_word(addr, v)` (spec/20_memory.md rule R56). -/
def hostWriteWord (addr v : Nat) (s : State) : State :=
  { s with mem := Memory.writeWord s.mem (BitVec.ofNat 16 addr) (BitVec.ofNat 16 v) }

/-- The bytes of the cells `start`, `start + 1`, … . -/
def readCells (m : Memory) (start : Nat) : Nat → List Byte
  | 0 => []
  | n + 1 => Memory.get m start :: readCells m (start + 1) n

/-- `bytes` put into the cells `start`, `start + 1`, … . -/
def writeCells (m : Memory) (start : Nat) : List Byte → Memory
  | [] => m
  | b :: bs => writeCells (Memory.put m start b) (start + 1) bs

/-- `read_range(start, end)` (spec/20_memory.md rule R57): `end` is exclusive; a range with
`start > end` or `end > 0x10000` is refused. -/
def hostReadRange (start stop : Nat) (s : State) : Host.Outcome (List Byte) Fault Refusal :=
  if start ≤ stop ∧ stop ≤ Memory.size then .next (readCells s.mem start (stop - start))
  else .refused .rangeRefused

/-- `write_range(start, bytes)` (spec/20_memory.md rule R57): a range with
`start + length(bytes) > 0x10000` is refused with no transfer. -/
def hostWriteRange (start : Nat) (bytes : List Byte) (s : State) :
    Host.Outcome State Fault Refusal :=
  if start + bytes.length ≤ Memory.size then .next { s with mem := writeCells s.mem start bytes }
  else .refused .rangeRefused

/-- The seven cells with an accessor (rule R282). -/
inductive Reg where
  | pc | sp | sr | x | y | a | cc
deriving DecidableEq, Repr

/-- Register read (rule R282): an SR read has bit 5 = 1. -/
def hostReadReg (r : Reg) (s : State) : Nat :=
  match r with
  | .pc => s.pc.toNat
  | .sp => s.sp.toNat
  | .sr => s.readSr.toNat
  | .x => s.x.toNat
  | .y => s.y.toNat
  | .a => s.a.toNat
  | .cc => s.cc

/-- Register write (rule R282): wrapped to the cell's width, bit 5 of SR forced to 1; no flag is
set. -/
def hostWriteReg (r : Reg) (v : Nat) (s : State) : State :=
  match r with
  | .pc => s.setPc (BitVec.ofNat 16 v)
  | .sp => s.setSp (BitVec.ofNat 8 v)
  | .sr => s.setSr (BitVec.ofNat 8 v)
  | .x => s.setX (BitVec.ofNat 8 v)
  | .y => s.setY (BitVec.ofNat 8 v)
  | .a => s.setA (BitVec.ofNat 8 v)
  | .cc => s.setCc v

/-- Flag read by name (rule R282). -/
def hostReadFlag (f : Flag) (s : State) : Nat := (s.flag f).toNat

/-- Flag write by name (rule R282, spec/60_exceptions.md rule R242): 0 and 1 are written, clearing
Unused is accepted and changes nothing, any other value is `StatusBitError`. -/
def hostWriteFlag (f : Flag) (v : Nat) (s : State) : Host.Outcome State Fault Refusal :=
  if v = 0 then .next (s.setFlag f false)
  else if v = 1 then .next (s.setFlag f true)
  else .fault (.statusBitError f.index)

/-- The register half of an image (rule R283): seven values, not yet wrapped. -/
structure CpuImage where
  pc : Nat
  sp : Nat
  sr : Nat
  x  : Nat
  y  : Nat
  a  : Nat
  cc : Nat
deriving DecidableEq, Repr

/-- `load_image(cpu, ram)` (rule R283): replaces the whole state; a memory that is not exactly 65,536
bytes is refused with no change. -/
def hostLoadImage (cpu : CpuImage) (ram : List Nat) (_ : State) :
    Host.Outcome State Fault Refusal :=
  if ram.length = Memory.size then
    .next
      { pc := BitVec.ofNat 16 cpu.pc, sp := BitVec.ofNat 8 cpu.sp,
        sr := BitVec.ofNat 8 cpu.sr ||| 0x20#8, a := BitVec.ofNat 8 cpu.a,
        x := BitVec.ofNat 8 cpu.x, y := BitVec.ofNat 8 cpu.y, cc := cpu.cc,
        mem := writeCells [] 0 (ram.map (BitVec.ofNat 8)) }
  else .refused .imageSizeRefused

/-- `save_image()` (rule R283): the seven cells and the 65,536 bytes. -/
def hostSaveImage (s : State) : CpuImage × List Nat :=
  ({ pc := s.pc.toNat, sp := s.sp.toNat, sr := s.readSr.toNat, x := s.x.toNat, y := s.y.toNat,
     a := s.a.toNat, cc := s.cc },
   (readCells s.mem 0 Memory.size).map BitVec.toNat)

end Sys2Proof.Machine
end

