-- ==== Sys2Proof/Safety.lean ====
section
/-! DEFINITION. What counts as a legal state and as a safe run, in the terms the statements use. -/

namespace Sys2Proof.Machine

/-- The invariant of the machine: memory is in canonical form and the stored SR has its hard-wired
bit 5 at 1 (spec/10_state.md rules R29, R35). Every other combination of cell values is legal
(spec/70_reset_and_hazards.md rule R283). -/
abbrev State.Inv (s : State) : Prop := Memory.wf s.mem ∧ s.sr.getLsbD 5 = true

/-- The opcode byte at PC selects one of the 151 defined slots (spec/30_encoding.md rule R87). -/
def State.opcodeDefined (s : State) : Bool := (optab (s.readByte s.pc)).isSome

/-- A run of `k` steps is safe when no step of it ends in a fault or a refusal
(spec/40_driver_and_modes.md rule R107). -/
def State.SafeRun (k : Nat) (s : State) : Prop := ∃ t, Sys2Proof.core.run k s = .next t

/-- Reachable from `s` by completed steps. -/
inductive Reachable (s : State) : State → Prop where
  | here : Reachable s s
  | step (t u : State) : Reachable s t → step t = .next u → Reachable s u

end Sys2Proof.Machine
end

