-- ==== Sys2Proof/Certificates/Slice0/Obligations.lean ====
section
/-! DEFINITION. The statements for the provers, and the vocabulary they share.

`exec i s` runs steps 3 to 6 of the driver (spec/40_driver_and_modes.md rule R100), so `s.pc` is the
opcode's address + 1 in every statement about `exec` (spec/10_state.md rule R22). The base cycles are
written `i.row.base`, the configuration table BASE_CYCLES (notes/assumptions/2.md), wherever a
statement does not depend on their values. -/

open Sys2Proof Sys2Proof.Machine

namespace Sys2Proof.Rule

/-- The operand byte `ReadOp(op)` of an instruction, its mode resolved. -/
def operand (i : Instr) (s : State) : Byte := readOp (resolve i.form s).op s

/-- The penalty cycles its mode accrues. -/
def penalty (i : Instr) (s : State) : Nat := (resolve i.form s).pen

/-- PC after step 5 for an instruction that does not control PC. -/
def pcAfter (i : Instr) (s : State) : Word := s.pc + BitVec.ofNat 16 (i.row.length - 1)

/-- CC after step 6 for an instruction that is no branch. -/
def ccAfter (i : Instr) (s : State) : Nat := s.cc + i.row.base + penalty i s

/-- The carry in, as a number. -/
def carryIn (s : State) : Nat := if s.flag .carry then 1 else 0

/-- Every flag but those listed is as before. -/
def onlyFlags (fs : List Flag) (s t : State) : Prop := ∀ f, f ∉ fs → t.flag f = s.flag f

/-- Z and N describe the byte `v` (spec/10_state.md rule R36). -/
def nzFrom (v : Byte) (t : State) : Prop :=
  t.flag .zero = decide (v.toNat = 0) ∧ t.flag .negative = decide (128 ≤ v.toNat)

/-- `t` is `s` after an instruction that writes `r` through its resolved operand, writes SR, advances
PC and CC, and changes nothing else. -/
def modified (i : Instr) (s : State) (r : Byte) (t : State) : Prop :=
  match (resolve i.form s).op with
  | .acc => t = { s with a := r, sr := t.sr, pc := pcAfter i s, cc := ccAfter i s }
  | .addr a =>
    t = { s with mem := Memory.write s.mem a r, sr := t.sr, pc := pcAfter i s, cc := ccAfter i s }
  | .none | .imm _ => False

/-- `v` is A in mode accumulator and the byte at the resolved address in every other mode: what a
modify instruction reads (spec/40_driver_and_modes.md rule R125). -/
def readsOperand (i : Instr) (s : State) (v : Byte) : Prop :=
  match (resolve i.form s).op with
  | .acc => i.row.mode = .accumulator ∧ v = s.a
  | .addr a => i.row.mode ≠ .accumulator ∧ v = s.readByte a
  | .none | .imm _ => False

/-- The decoder reads the opcodes listed as the forms listed, in that order, whatever the operand
bytes (spec/30_encoding.md rules R82, R88). -/
def decodesTo (opcodes : List Byte) (forms : Byte → Word → List Instr) : Prop :=
  ∀ n h, opcodes.map (fun o => decodeOpcode o n h) = (forms n (Word.ofBytes h n)).map some

/-- A byte that selects no row: the list of spec/30_encoding.md rule R89. -/
def undefinedOpcodes : List Byte :=
  [0x02#8, 0x03#8, 0x04#8, 0x07#8, 0x0B#8, 0x0C#8, 0x0F#8, 0x12#8, 0x13#8, 0x14#8, 0x17#8] ++
    [0x1A#8, 0x1B#8, 0x1C#8, 0x1F#8, 0x22#8, 0x23#8, 0x27#8, 0x2B#8, 0x2F#8, 0x32#8, 0x33#8] ++
    [0x34#8, 0x37#8, 0x3A#8, 0x3B#8, 0x3C#8, 0x3F#8, 0x42#8, 0x43#8, 0x44#8, 0x47#8, 0x4B#8] ++
    [0x4F#8, 0x52#8, 0x53#8, 0x54#8, 0x57#8, 0x5A#8, 0x5B#8, 0x5C#8, 0x5F#8, 0x62#8, 0x63#8] ++
    [0x64#8, 0x67#8, 0x6B#8, 0x6F#8, 0x72#8, 0x73#8, 0x74#8, 0x77#8, 0x7A#8, 0x7B#8, 0x7C#8] ++
    [0x7F#8, 0x80#8, 0x82#8, 0x83#8, 0x87#8, 0x89#8, 0x8B#8, 0x8F#8, 0x92#8, 0x93#8, 0x97#8] ++
    [0x9B#8, 0x9C#8, 0x9E#8, 0x9F#8, 0xA3#8, 0xA7#8, 0xAB#8, 0xAF#8, 0xB2#8, 0xB3#8, 0xB7#8] ++
    [0xBB#8, 0xBF#8, 0xC2#8, 0xC3#8, 0xC7#8, 0xCB#8, 0xCF#8, 0xD2#8, 0xD3#8, 0xD4#8, 0xD7#8] ++
    [0xDA#8, 0xDB#8, 0xDC#8, 0xDF#8, 0xE2#8, 0xE3#8, 0xE7#8, 0xEB#8, 0xEF#8, 0xF2#8, 0xF3#8] ++
    [0xF4#8, 0xF7#8, 0xFA#8, 0xFB#8, 0xFC#8, 0xFF#8]

/-- The target of a branch from PC at its offset byte: `(PC + 1 + sext_16(n)) & 0xFFFF`
(spec/00_scope.md rule R6, spec/47_branch.md rule R200). -/
def branchTarget (pc : Word) (n : Byte) : Word :=
  BitVec.ofNat 16 (pc.toNat + 1 + n.toNat + if n.toNat < 128 then 0 else 0xFF00)

/-- What a branch answers (spec/47_branch.md rule R200): taken, PC at the target and one penalty
cycle, one more when the target is in another page than the next instruction; not taken, PC past the
offset and no penalty. -/
def branches (i : Instr) (n : Byte) (cond : Bool) (s : State) : Prop :=
  exec i s = .next
    (if cond then
      { s with
        pc := branchTarget s.pc n,
        cc := s.cc + i.row.base + 1 +
          if (branchTarget s.pc n).toNat / 256 = (s.pc + 1).toNat / 256 then 0 else 1 }
    else { s with pc := s.pc + 1, cc := s.cc + i.row.base })

/-- The flags a mnemonic may write: the table of spec/10_state.md rule R39. -/
def flagsWritten : Mnemonic → List Flag
  | .adc | .sbc => [.negative, .overflow, .zero, .carry]
  | .and | .ora | .eor | .lda | .ldx | .ldy | .inc | .dec | .inx | .iny | .dex | .dey =>
    [.negative, .zero]
  | .tax | .tay | .txa | .tya | .tsx | .pla => [.negative, .zero]
  | .asl | .lsr | .rol | .ror | .cmp | .cpx | .cpy => [.negative, .zero, .carry]
  | .bit => [.negative, .overflow, .zero]
  | .clc | .sec => [.carry]
  | .cld | .sed => [.decimal]
  | .cli | .sei => [.interruptDisable]
  | .clv => [.overflow]
  | .brk => [.brk, .interruptDisable]
  | .plp => [.negative, .overflow, .brk, .decimal, .interruptDisable, .zero, .carry]
  | .rti => [.negative, .overflow, .decimal, .interruptDisable, .zero, .carry]
  | .sta | .stx | .sty | .txs | .pha | .php | .jmp | .jsr | .rts | .nop => []
  | .bcc | .bcs | .beq | .bne | .bmi | .bpl | .bvc | .bvs => []

/-- The mnemonics whose destination is A (spec/10_state.md rule R24), beside the four shifts in
accumulator mode. -/
def writesA : List Mnemonic := [.adc, .sbc, .and, .ora, .eor, .lda, .pla, .txa, .tya]

/-- The mnemonics whose destination is X (spec/10_state.md rule R25). -/
def writesX : List Mnemonic := [.ldx, .tax, .tsx, .inx, .dex]

/-- The mnemonics whose destination is Y (spec/10_state.md rule R26). -/
def writesY : List Mnemonic := [.ldy, .tay, .iny, .dey]

/-- The mnemonics that write SP: TXS and those that push or pop (spec/10_state.md rule R23). -/
def writesSp : List Mnemonic := [.txs, .brk, .jsr, .rts, .rti, .pha, .php, .pla, .plp]

/-- The mnemonics that write through their resolved operand (spec/40_driver_and_modes.md rule R108,
classes store and modify). -/
def storesOperand : List Mnemonic :=
  [.sta, .stx, .sty, .asl, .lsr, .rol, .ror, .inc, .dec]

/-- How many bytes a mnemonic pushes (spec/49_jump_stack_system.md rules R220, R222, R225, R226). -/
def bytesPushed : Mnemonic → Nat
  | .brk => 3
  | .jsr => 2
  | .pha | .php => 1
  | _ => 0

/-- The addresses a push of `k` bytes stores to, from SP downward (spec/20_memory.md rule R62). -/
def pushedSlots (sp : Byte) : Nat → List Word
  | 0 => []
  | k + 1 => stackAddr sp :: pushedSlots (sp - 1) k

/-- The forms of LDA (rule R140). -/
def ldaForms (n : Byte) (w : Word) : List Instr :=
  [.ldaImmediate n, .ldaZeroPage n, .ldaZeroPageX n, .ldaAbsolute w, .ldaAbsoluteX w,
  .ldaAbsoluteY w, .ldaIndirectX n, .ldaIndirectY n]

/-- The forms of LDX (rule R142). -/
def ldxForms (n : Byte) (w : Word) : List Instr :=
  [.ldxImmediate n, .ldxZeroPage n, .ldxZeroPageY n, .ldxAbsolute w, .ldxAbsoluteY w]

/-- The forms of LDY (rule R143). -/
def ldyForms (n : Byte) (w : Word) : List Instr :=
  [.ldyImmediate n, .ldyZeroPage n, .ldyZeroPageX n, .ldyAbsolute w, .ldyAbsoluteX w]

/-- The forms of STA (rule R141). -/
def staForms (n : Byte) (w : Word) : List Instr :=
  [.staZeroPage n, .staZeroPageX n, .staAbsolute w, .staAbsoluteX w, .staAbsoluteY w,
  .staIndirectX n, .staIndirectY n]

/-- The forms of STX (rule R144). -/
def stxForms (n : Byte) (w : Word) : List Instr :=
  [.stxZeroPage n, .stxZeroPageY n, .stxAbsolute w]

/-- The forms of STY (rule R145). -/
def styForms (n : Byte) (w : Word) : List Instr :=
  [.styZeroPage n, .styZeroPageX n, .styAbsolute w]

/-- The forms of ADC (rule R150). -/
def adcForms (n : Byte) (w : Word) : List Instr :=
  [.adcImmediate n, .adcZeroPage n, .adcZeroPageX n, .adcAbsolute w, .adcAbsoluteX w,
  .adcAbsoluteY w, .adcIndirectX n, .adcIndirectY n]

/-- The forms of SBC (rule R151). -/
def sbcForms (n : Byte) (w : Word) : List Instr :=
  [.sbcImmediate n, .sbcZeroPage n, .sbcZeroPageX n, .sbcAbsolute w, .sbcAbsoluteX w,
  .sbcAbsoluteY w, .sbcIndirectX n, .sbcIndirectY n]

/-- The forms of AND (rule R152). -/
def andForms (n : Byte) (w : Word) : List Instr :=
  [.andImmediate n, .andZeroPage n, .andZeroPageX n, .andAbsolute w, .andAbsoluteX w,
  .andAbsoluteY w, .andIndirectX n, .andIndirectY n]

/-- The forms of ORA (rule R153). -/
def oraForms (n : Byte) (w : Word) : List Instr :=
  [.oraImmediate n, .oraZeroPage n, .oraZeroPageX n, .oraAbsolute w, .oraAbsoluteX w,
  .oraAbsoluteY w, .oraIndirectX n, .oraIndirectY n]

/-- The forms of EOR (rule R154). -/
def eorForms (n : Byte) (w : Word) : List Instr :=
  [.eorImmediate n, .eorZeroPage n, .eorZeroPageX n, .eorAbsolute w, .eorAbsoluteX w,
  .eorAbsoluteY w, .eorIndirectX n, .eorIndirectY n]

/-- The forms of ASL (rule R160). -/
def aslForms (n : Byte) (w : Word) : List Instr :=
  [.aslAccumulator, .aslZeroPage n, .aslZeroPageX n, .aslAbsolute w, .aslAbsoluteX w]

/-- The forms of LSR (rule R161). -/
def lsrForms (n : Byte) (w : Word) : List Instr :=
  [.lsrAccumulator, .lsrZeroPage n, .lsrZeroPageX n, .lsrAbsolute w, .lsrAbsoluteX w]

/-- The forms of ROL (rule R162). -/
def rolForms (n : Byte) (w : Word) : List Instr :=
  [.rolAccumulator, .rolZeroPage n, .rolZeroPageX n, .rolAbsolute w, .rolAbsoluteX w]

/-- The forms of ROR (rule R163). -/
def rorForms (n : Byte) (w : Word) : List Instr :=
  [.rorAccumulator, .rorZeroPage n, .rorZeroPageX n, .rorAbsolute w, .rorAbsoluteX w]

/-- The forms of INC (rule R170). -/
def incForms (n : Byte) (w : Word) : List Instr :=
  [.incZeroPage n, .incZeroPageX n, .incAbsolute w, .incAbsoluteX w]

/-- The forms of DEC (rule R171). -/
def decForms (n : Byte) (w : Word) : List Instr :=
  [.decZeroPage n, .decZeroPageX n, .decAbsolute w, .decAbsoluteX w]

/-- The forms of BIT (rule R190). -/
def bitForms (n : Byte) (w : Word) : List Instr :=
  [.bitZeroPage n, .bitAbsolute w]

/-- The forms of CMP (rule R191). -/
def cmpForms (n : Byte) (w : Word) : List Instr :=
  [.cmpImmediate n, .cmpZeroPage n, .cmpZeroPageX n, .cmpAbsolute w, .cmpAbsoluteX w,
  .cmpAbsoluteY w, .cmpIndirectX n, .cmpIndirectY n]

/-- The forms of CPX (rule R192). -/
def cpxForms (n : Byte) (w : Word) : List Instr :=
  [.cpxImmediate n, .cpxZeroPage n, .cpxAbsolute w]

/-- The forms of CPY (rule R193). -/
def cpyForms (n : Byte) (w : Word) : List Instr :=
  [.cpyImmediate n, .cpyZeroPage n, .cpyAbsolute w]

/-- The forms of JMP (rule R221). -/
def jmpForms (_ : Byte) (w : Word) : List Instr :=
  [.jmpAbsolute w, .jmpIndirect w]

/-- The forms of JSR (rule R222). -/
def jsrForms (_ : Byte) (w : Word) : List Instr :=
  [.jsrAbsolute w]

end Sys2Proof.Rule

open Sys2Proof.Rule

/-- For every well-formed instruction, with every operand at every value, and every continuation
of the byte stream, decoding its encoding followed by that continuation gives the instruction and
exactly the continuation (rules R80 to R82). -/
def Obligations.DecodeOfEncodeIsIdentity : Prop :=
  ∀ (i : Instr) (rest : List Byte), i.wellFormed = true → decode (encode i ++ rest) = .ok (i, rest)

/-- For every byte string that decodes to an instruction and a rest, the string is the encoding of
that instruction followed by that rest, and the instruction is well formed: no two byte strings of
one length stand for one instruction, and no bit is ignored (rules R80 to R84). -/
def Obligations.EncodeOfDecodeIsIdentity : Prop :=
  ∀ (bytes : List Byte) (i : Instr) (rest : List Byte),
    decode bytes = .ok (i, rest) → encode i ++ rest = bytes ∧ i.wellFormed = true

/-- A byte string is rejected as an undefined opcode exactly when its first byte is one of the 105
values that rule R89 lists, whatever follows it. That these values fault and do not execute is
decision D5 of the spec: notes/assumptions/12.md. -/
def Obligations.UndefinedOpcodesAreRejected : Prop :=
  ∀ (o : Byte) (rest : List Byte),
    (decode (o :: rest) = .error (.undefinedOpcode o) ↔ o ∈ undefinedOpcodes) ∧
      (optab o = none ↔ o ∈ undefinedOpcodes)

/-- One word of each family, written out from the opcode map of rule R88 with bit 0 the least
significant bit of the first byte, decodes to its instruction; an undefined opcode decodes to
nothing. The opcode map is general knowledge in the spec, PRESUMED: notes/assumptions/10.md. -/
def Obligations.SpecWordsDecode : Prop :=
  decodeTableWord 24 0x12F0BD = some (.ldaAbsoluteX 0x12F0#16) ∧
    decodeTableWord 16 0x1096 = some (.stxZeroPageY 0x10#8) ∧
    decodeTableWord 16 0x5069 = some (.adcImmediate 0x50#8) ∧
    decodeTableWord 8 0x6A = some .rorAccumulator ∧
    decodeTableWord 24 0x1234CE = some (.decAbsolute 0x1234#16) ∧
    decodeTableWord 8 0x9A = some .txs ∧
    decodeTableWord 16 0x10D1 = some (.cmpIndirectY 0x10#8) ∧
    decodeTableWord 16 0xFBD0 = some (.bne 0xFB#8) ∧
    decodeTableWord 8 0xB8 = some .clv ∧
    decodeTableWord 24 0x10FF6C = some (.jmpIndirect 0x10FF#16) ∧
    decodeTableWord 16 0x1001 = some (.oraIndirectX 0x10#8) ∧
    decodeTableWord 8 0x02 = none

/-- Every instruction is well formed (its row has the length, the base cycles and the mode its
mnemonic admits), its encoding has 1, 2 or 3 bytes as its mode says (rule R127), its opcode is
found again in the table as its own row, and two instructions with one opcode have one row (rule
R80). Which modes a mnemonic has is general knowledge in the spec, PRESUMED
(notes/assumptions/10.md); that BRK has length 1 is decision D17 (notes/assumptions/21.md). -/
def Obligations.EveryRowIsWellFormed : Prop :=
  ∀ i j : Instr,
    i.wellFormed = true ∧ i.form.mode = i.row.mode ∧
      (encode i).length = i.row.length ∧
      i.row.length =
        (if i.row.mode ∈ [Mode.implied, .accumulator] then 1
          else if i.row.mode ∈ [Mode.absolute, .absoluteX, .absoluteY, .indirect] then 3 else 2) ∧
      optab i.row.opcode = some i.row ∧
      (i.row.opcode = j.row.opcode → i.row = j.row)

/-- For memory in canonical form, any two addresses and any value: after write_byte(a, v),
read_byte(b) is v & 0xFF when a and b agree modulo 2^16 and what it was before otherwise; no
register changes. -/
def Obligations.ByteReadAfterByteWrite : Prop :=
  ∀ (s : State) (a b v : Nat), Memory.wf s.mem →
    (hostReadByte b (hostWriteByte a v s)).toNat =
        (if b % 65536 = a % 65536 then v % 256 else (hostReadByte b s).toNat) ∧
      hostReadByte b s = hostReadByte (b % 65536) s ∧
      { hostWriteByte a v s with mem := s.mem } = s

/-- For memory in canonical form: after write_word(a, v), read_word(a) is v modulo 2^16, the byte
at a is the low byte, the byte at a + 1 modulo 2^16 is the high byte, every other byte is as
before and no register changes; and read_word is the two bytes in that order. -/
def Obligations.WordReadAfterWordWrite : Prop :=
  ∀ (s : State) (a b v : Nat), Memory.wf s.mem →
    let t := hostWriteWord a v s
    (hostReadWord a false t).toNat = v % 65536 ∧
      (hostReadByte a t).toNat = v % 256 ∧
      (hostReadByte (a + 1) t).toNat = v / 256 % 256 ∧
      (b % 65536 ≠ a % 65536 → b % 65536 ≠ (a + 1) % 65536 →
        hostReadByte b t = hostReadByte b s) ∧
      { t with mem := s.mem } = s ∧
      (hostReadWord b false s).toNat =
        (hostReadByte (b + 1) s).toNat * 256 + (hostReadByte b s).toNat

/-- The page-wrapped word read takes its low byte from a and its high byte from the address in the
page of a whose low byte is one more modulo 256; it differs from the plain read only at the last
byte of a page, where the high byte comes from the first byte of the same page. -/
def Obligations.PageWrappedWordRead : Prop :=
  ∀ (s : State) (a : Nat),
    (hostReadWord a true s).toNat =
        (hostReadByte (a % 65536 / 256 * 256 + (a + 1) % 256) s).toNat * 256 +
          (hostReadByte a s).toNat ∧
      (a % 256 ≠ 255 → hostReadWord a true s = hostReadWord a false s) ∧
      (a % 256 = 255 →
        (hostReadWord a true s).hi = hostReadByte (a % 65536 - 255) s)

/-- For memory in canonical form: after Push(v) the byte at 0x0100 + SP is v, every other byte and
every register but SP is as before, and SP is one less modulo 256; Pop raises SP by one modulo
256, returns the byte at 0x0100 + the new SP and changes nothing else; Pop after Push returns v
with SP and every byte outside the slot as before the Push. -/
def Obligations.PushAndPopOneByte : Prop :=
  ∀ (s : State) (v : Byte), Memory.wf s.mem →
    (s.push v).readByte (BitVec.ofNat 16 (256 + s.sp.toNat)) = v ∧
      (s.push v).sp.toNat = (s.sp.toNat + 255) % 256 ∧
      (∀ b : Word, b.toNat ≠ 256 + s.sp.toNat → (s.push v).readByte b = s.readByte b) ∧
      { s.push v with sp := s.sp, mem := s.mem } = s ∧
      s.pop.1.sp.toNat = (s.sp.toNat + 1) % 256 ∧
      s.pop.2 = s.readByte (BitVec.ofNat 16 (256 + (s.sp.toNat + 1) % 256)) ∧
      { s.pop.1 with sp := s.sp } = s ∧
      (s.push v).pop.2 = v ∧ (s.push v).pop.1.sp = s.sp

/-- For memory in canonical form: PushWord(w) puts the high byte at 0x0100 + SP and the low byte
one slot below modulo 256, lowers SP by 2 modulo 256 and changes nothing else; PopWord returns low
byte from the first slot above SP and high byte from the second, raises SP by 2; PopWord after
PushWord returns w and restores SP. -/
def Obligations.PushAndPopOneWord : Prop :=
  ∀ (s : State) (w : Word), Memory.wf s.mem →
    (s.pushWord w).readByte (BitVec.ofNat 16 (256 + s.sp.toNat)) = w.hi ∧
      (s.pushWord w).readByte (BitVec.ofNat 16 (256 + (s.sp.toNat + 255) % 256)) = w.lo ∧
      (s.pushWord w).sp.toNat = (s.sp.toNat + 254) % 256 ∧
      (∀ b : Word, b.toNat ≠ 256 + s.sp.toNat → b.toNat ≠ 256 + (s.sp.toNat + 255) % 256 →
        (s.pushWord w).readByte b = s.readByte b) ∧
      { s.pushWord w with sp := s.sp, mem := s.mem } = s ∧
      s.popWord.2.lo = s.readByte (BitVec.ofNat 16 (256 + (s.sp.toNat + 1) % 256)) ∧
      s.popWord.2.hi = s.readByte (BitVec.ofNat 16 (256 + (s.sp.toNat + 2) % 256)) ∧
      s.popWord.1.sp.toNat = (s.sp.toNat + 2) % 256 ∧
      { s.popWord.1 with sp := s.sp } = s ∧
      (s.pushWord w).popWord.2 = w ∧ (s.pushWord w).popWord.1.sp = s.sp

/-- Two memories in canonical form that read alike at every one of the 65,536 addresses are equal
as data, so a state is determined by its seven cells and the bytes of its memory (rules R20, R41).
-/
def Obligations.EqualBytesAreEqualMemory : Prop :=
  ∀ s t : State, Memory.wf s.mem → Memory.wf t.mem →
    (∀ b : Word, s.readByte b = t.readByte b) → { s with mem := t.mem } = s

/-- write_range inside memory stores byte k of the sequence at start + k and leaves every other
byte and every register as it was; read_range with start <= end <= 0x10000 returns the bytes from
start up to but not including end; any other range is refused. The exclusive end and the refusal
are decision D16 of the spec: notes/assumptions/16.md. -/
def Obligations.BulkTransfersRefuseOutOfRange : Prop :=
  ∀ (s : State) (start stop : Nat) (bytes : List Byte), Memory.wf s.mem →
    (start + bytes.length ≤ 65536 →
      ∃ t, hostWriteRange start bytes s = .next t ∧ { t with mem := s.mem } = s ∧
        ∀ k, k < 65536 → hostReadByte k t =
          if start ≤ k ∧ k < start + bytes.length then bytes.getD (k - start) 0#8
          else hostReadByte k s) ∧
      (¬ start + bytes.length ≤ 65536 → hostWriteRange start bytes s = .refused .rangeRefused) ∧
      (start ≤ stop → stop ≤ 65536 →
        hostReadRange start stop s =
          .next ((List.range (stop - start)).map fun k => hostReadByte (start + k) s)) ∧
      (¬ (start ≤ stop ∧ stop ≤ 65536) → hostReadRange start stop s = .refused .rangeRefused)

/-- After SetNZ(v) the zero flag is whether v is 0, the negative flag is bit 7 of v, the six other
bits of SR read as before and every other cell is unchanged. -/
def Obligations.SetNzWritesTwoFlags : Prop :=
  ∀ (s : State) (v : Byte),
    nzFrom v (s.setNZ v) ∧ onlyFlags [.zero, .negative] s (s.setNZ v) ∧
      { s.setNZ v with sr := s.sr } = s

/-- After a host write of a value to a register, its read gives the value modulo 2^16 (PC), modulo
2^8 (SP, X, Y, A), modulo 2^8 with bit 5 at 1 (SR), or the value itself (CC); every other register
and memory are as before. The hard-wiring of bit 5 is decision D14 of the spec
(notes/assumptions/7.md), the unbounded CC decision D1 (notes/assumptions/15.md). -/
def Obligations.RegisterAccessorsWrap : Prop :=
  ∀ (s : State) (r q : Reg) (v : Nat),
    hostReadReg r (hostWriteReg r v s) =
        (match r with
        | .pc => v % 65536
        | .sp | .x | .y | .a => v % 256
        | .sr => v % 256 ||| 32
        | .cc => v) ∧
      (q ≠ r → hostReadReg q (hostWriteReg r v s) = hostReadReg q s) ∧
      (hostWriteReg r v s).mem = s.mem

/-- A host write of 0 or 1 to a named flag makes that flag read the value (Unused reads 1 whatever
is written), leaves every other flag and every other cell as before; any other value ends in
StatusBitError with the index of the flag's bit (rule R242). Unused is decision D14
(notes/assumptions/7.md), the error decision D23 (notes/assumptions/16.md). -/
def Obligations.FlagAccessorsWriteOneBit : Prop :=
  ∀ (s : State) (f : Flag) (v : Nat),
    (v ≤ 1 → ∃ t, hostWriteFlag f v s = .next t ∧
      hostReadFlag f t = (if f = .unused then 1 else v) ∧
      onlyFlags [f] s t ∧ { t with sr := s.sr } = s) ∧
      (1 < v → hostWriteFlag f v s = .fault (.statusBitError f.index)) ∧
      hostReadFlag f s = hostReadReg .sr s / 2 ^ f.index.val % 2

/-- zero-page designates address n, zero-page,X address (n + X) modulo 256, zero-page,Y address (n
+ Y) modulo 256, each with no penalty and PC unchanged. -/
def Obligations.ZeroPageModesWrapInPageZero : Prop :=
  ∀ (n : Byte) (s : State), ∃ a ax ay : Word,
    resolve (.zeroPage n) s = ⟨.addr a, 0, s.pc⟩ ∧ a.toNat = n.toNat ∧
      resolve (.zeroPageX n) s = ⟨.addr ax, 0, s.pc⟩ ∧
      ax.toNat = (n.toNat + s.x.toNat) % 256 ∧
      resolve (.zeroPageY n) s = ⟨.addr ay, 0, s.pc⟩ ∧
      ay.toNat = (n.toNat + s.y.toNat) % 256

/-- absolute designates the operand word without penalty; absolute,X and absolute,Y designate the
operand word plus the index modulo 2^16 and accrue one penalty cycle exactly when the high byte of
the result differs from that of the operand word; PC is unchanged. -/
def Obligations.AbsoluteModesPayForAPageCross : Prop :=
  ∀ (w : Word) (s : State), ∃ ax ay : Word,
    resolve (.absolute w) s = ⟨.addr w, 0, s.pc⟩ ∧
      ax.toNat = (w.toNat + s.x.toNat) % 65536 ∧
      resolve (.absoluteX w) s =
        ⟨.addr ax, if ax.toNat / 256 ≠ w.toNat / 256 then 1 else 0, s.pc⟩ ∧
      ay.toNat = (w.toNat + s.y.toNat) % 65536 ∧
      resolve (.absoluteY w) s =
        ⟨.addr ay, if ay.toNat / 256 ≠ w.toNat / 256 then 1 else 0, s.pc⟩

/-- indirect designates the page-wrapped word at the operand word; (indirect,X) the word whose
bytes are at (n + X) and (n + X + 1) modulo 256, both without penalty; (indirect),Y the word whose
bytes are at n and (n + 1) modulo 256, plus Y modulo 2^16, with one penalty cycle exactly when the
high byte changes; PC is unchanged. -/
def Obligations.IndirectModesReadWrappedPointers : Prop :=
  ∀ (n : Byte) (w : Word) (s : State), ∃ p ax base ay : Word,
    p.toNat = (hostReadByte (w.toNat / 256 * 256 + (w.toNat + 1) % 256) s).toNat * 256 +
        (s.readByte w).toNat ∧
      resolve (.indirect w) s = ⟨.addr p, 0, s.pc⟩ ∧
      ax.toNat = (hostReadByte ((n.toNat + s.x.toNat + 1) % 256) s).toNat * 256 +
        (hostReadByte ((n.toNat + s.x.toNat) % 256) s).toNat ∧
      resolve (.indirectX n) s = ⟨.addr ax, 0, s.pc⟩ ∧
      base.toNat = (hostReadByte ((n.toNat + 1) % 256) s).toNat * 256 +
        (hostReadByte n.toNat s).toNat ∧
      ay.toNat = (base.toNat + s.y.toNat) % 65536 ∧
      resolve (.indirectY n) s =
        ⟨.addr ay, if ay.toNat / 256 ≠ base.toNat / 256 then 1 else 0, s.pc⟩

/-- relative advances PC by one, designates PC after that plus the offset as a two's-complement
byte modulo 2^16 (by the two-case formula of the rule), and accrues one penalty cycle, two when
the target is in another page than PC after the offset. -/
def Obligations.RelativeModeConsumesTheOffset : Prop :=
  ∀ (n : Byte) (s : State), ∃ t : Word,
    (t.toNat : Int) =
        (if 128 ≤ n.toNat then ((s.pc + 1).toNat : Int) - ((n ^^^ 0xFF#8).toNat : Int) - 1
          else ((s.pc + 1).toNat : Int) + n.toNat) % 65536 ∧
      resolve (.relative n) s =
        ⟨.addr t, if t.toNat / 256 ≠ (s.pc + 1).toNat / 256 then 2 else 1, s.pc + 1⟩

/-- ReadOp: for every instruction and state the operand read is the operand byte in mode
immediate, A in mode accumulator, and the byte of memory at the address wherever the mode resolves
to an address (rule R125). In a step: when the bytes at PC decode to an instruction of mode
immediate, that operand is the byte at the address of the first operand byte, which is how rule
R113 reads it; and the operand bytes of every decoded instruction are those in memory after its
opcode. The model carries operand bytes in the instruction: notes/assumptions/4.md. -/
def Obligations.ImmediateOperandIsTheByteAtPc : Prop :=
  (∀ (i : Instr) (s : State),
    (∀ n, i.form = .immediate n → operand i s = n) ∧
      (i.form = .accumulator → operand i s = s.a) ∧
      (∀ a, (resolve i.form s).op = .addr a → operand i s = s.readByte a)) ∧
    ∀ (s : State) (i : Instr) (rest : List Byte), decode (fetchBytes s) = .ok (i, rest) →
      (i.row.mode = .immediate →
        operand i (bumpPc s) = readOp (.addr (bumpPc s).pc) (bumpPc s)) ∧
        i.form.operandBytes =
          [s.readByte (s.pc + 1), s.readByte (s.pc + 2)].take (i.row.length - 1)

/-- Every form of LDA (8), LDX (5) and LDY (5) answers a next state in which its register holds
the operand, Z and N describe it, PC and CC have advanced, and every other cell, flag and byte is
as before (rules R140, R142, R143). The bodies and the opcodes are general knowledge in the spec,
PRESUMED: notes/assumptions/10.md. -/
def Obligations.LoadsFillTheRegister : Prop :=
  (decodesTo [0xA9#8, 0xA5#8, 0xB5#8, 0xAD#8, 0xBD#8, 0xB9#8, 0xA1#8, 0xB1#8] ldaForms ∧
      ∀ (n : Byte) (w : Word) (s : State), ∀ i ∈ ldaForms n w, ∃ t, exec i s = .next t ∧
        t = { s with a := operand i s, sr := t.sr, pc := pcAfter i s, cc := ccAfter i s } ∧
        nzFrom (operand i s) t ∧ onlyFlags [.zero, .negative] s t) ∧
    (decodesTo [0xA2#8, 0xA6#8, 0xB6#8, 0xAE#8, 0xBE#8] ldxForms ∧
      ∀ (n : Byte) (w : Word) (s : State), ∀ i ∈ ldxForms n w, ∃ t, exec i s = .next t ∧
        t = { s with x := operand i s, sr := t.sr, pc := pcAfter i s, cc := ccAfter i s } ∧
        nzFrom (operand i s) t ∧ onlyFlags [.zero, .negative] s t) ∧
    (decodesTo [0xA0#8, 0xA4#8, 0xB4#8, 0xAC#8, 0xBC#8] ldyForms ∧
      ∀ (n : Byte) (w : Word) (s : State), ∀ i ∈ ldyForms n w, ∃ t, exec i s = .next t ∧
        t = { s with y := operand i s, sr := t.sr, pc := pcAfter i s, cc := ccAfter i s } ∧
        nzFrom (operand i s) t ∧ onlyFlags [.zero, .negative] s t)

/-- Every form of STA (7), STX (3) and STY (3) resolves to an address and answers the next state
in which that byte of memory holds the register, PC and CC have advanced (the page-cross cycle
included), and every other cell and flag is as before (rules R141, R144, R145). That a store pays
the page-cross cycle is decision D13 of the spec: notes/assumptions/14.md. The bodies and the
opcodes are general knowledge in the spec, PRESUMED: notes/assumptions/10.md. -/
def Obligations.StoresWriteTheRegister : Prop :=
  (decodesTo [0x85#8, 0x95#8, 0x8D#8, 0x9D#8, 0x99#8, 0x81#8, 0x91#8] staForms ∧
      ∀ (n : Byte) (w : Word) (s : State), ∀ i ∈ staForms n w, ∃ a,
        (resolve i.form s).op = .addr a ∧
          exec i s = .next
            { s with mem := Memory.write s.mem a s.a, pc := pcAfter i s, cc := ccAfter i s }) ∧
    (decodesTo [0x86#8, 0x96#8, 0x8E#8] stxForms ∧
      ∀ (n : Byte) (w : Word) (s : State), ∀ i ∈ stxForms n w, ∃ a,
        (resolve i.form s).op = .addr a ∧
          exec i s = .next
            { s with mem := Memory.write s.mem a s.x, pc := pcAfter i s, cc := ccAfter i s }) ∧
    (decodesTo [0x84#8, 0x94#8, 0x8C#8] styForms ∧
      ∀ (n : Byte) (w : Word) (s : State), ∀ i ∈ styForms n w, ∃ a,
        (resolve i.form s).op = .addr a ∧
          exec i s = .next
            { s with mem := Memory.write s.mem a s.y, pc := pcAfter i s, cc := ccAfter i s })

/-- Every form of ADC answers a next state in which A is (A + operand + C) modulo 256, C is
whether the sum exceeds 0xFF, V is the formula of the rule and also whether the two's-complement
sum is out of range, Z and N describe A, and every other cell and flag is as before (rule R150).
That the sum is binary whatever D holds is decision D4 of the spec: notes/assumptions/11.md. The
opcodes are general knowledge in the spec, PRESUMED: notes/assumptions/10.md. -/
def Obligations.AdcAddsWithCarry : Prop :=
  decodesTo [0x69#8, 0x65#8, 0x75#8, 0x6D#8, 0x7D#8, 0x79#8, 0x61#8, 0x71#8] adcForms ∧
    ∀ (n : Byte) (w : Word) (s : State), ∀ i ∈ adcForms n w,
      let v := operand i s
      let tmp := s.a.toNat + v.toNat + carryIn s
      ∃ t, exec i s = .next t ∧
        t = { s with a := t.a, sr := t.sr, pc := pcAfter i s, cc := ccAfter i s } ∧
        t.a.toNat = tmp % 256 ∧ t.flag .carry = decide (0xFF < tmp) ∧
        t.flag .overflow = ((s.a ^^^ t.a) &&& (v ^^^ t.a) &&& 0x80#8 != 0#8) ∧
        t.flag .overflow =
          decide (s.a.toInt + v.toInt + carryIn s < -128 ∨ 127 < s.a.toInt + v.toInt + carryIn s) ∧
        nzFrom t.a t ∧ onlyFlags [.carry, .overflow, .zero, .negative] s t

/-- Every form of SBC answers a next state in which A is A - operand - (1 - C) modulo 256, C is
whether no borrow occurred, V is whether the two's-complement difference is out of range, Z and N
describe A, and every other cell and flag is as before (rule R151). That the difference is binary
whatever D holds is decision D4 of the spec: notes/assumptions/11.md. The opcodes are general
knowledge in the spec, PRESUMED: notes/assumptions/10.md. -/
def Obligations.SbcSubtractsWithBorrow : Prop :=
  decodesTo [0xE9#8, 0xE5#8, 0xF5#8, 0xED#8, 0xFD#8, 0xF9#8, 0xE1#8, 0xF1#8] sbcForms ∧
    ∀ (n : Byte) (w : Word) (s : State), ∀ i ∈ sbcForms n w,
      let v := operand i s
      let borrow := 1 - carryIn s
      ∃ t, exec i s = .next t ∧
        t = { s with a := t.a, sr := t.sr, pc := pcAfter i s, cc := ccAfter i s } ∧
        (t.a.toNat : Int) = ((s.a.toNat : Int) - v.toNat - borrow) % 256 ∧
        t.flag .carry = decide (v.toNat + borrow ≤ s.a.toNat) ∧
        t.flag .overflow =
          decide (s.a.toInt - v.toInt - borrow < -128 ∨ 127 < s.a.toInt - v.toInt - borrow) ∧
        nzFrom t.a t ∧ onlyFlags [.carry, .overflow, .zero, .negative] s t

/-- Every form of AND, ORA and EOR answers a next state in which A is the bitwise and, or,
exclusive-or of A and the operand, Z and N describe it, PC and CC have advanced, and every other
cell, flag and byte is as before (rules R152 to R154). The bodies and the opcodes are general
knowledge in the spec, PRESUMED: notes/assumptions/10.md. -/
def Obligations.LogicCombinesBitwise : Prop :=
  (decodesTo [0x29#8, 0x25#8, 0x35#8, 0x2D#8, 0x3D#8, 0x39#8, 0x21#8, 0x31#8] andForms ∧
      ∀ (n : Byte) (w : Word) (s : State), ∀ i ∈ andForms n w, ∃ t, exec i s = .next t ∧
        t = { s with
          a := s.a &&& operand i s, sr := t.sr, pc := pcAfter i s, cc := ccAfter i s } ∧
        nzFrom (s.a &&& operand i s) t ∧ onlyFlags [.zero, .negative] s t) ∧
    (decodesTo [0x09#8, 0x05#8, 0x15#8, 0x0D#8, 0x1D#8, 0x19#8, 0x01#8, 0x11#8] oraForms ∧
      ∀ (n : Byte) (w : Word) (s : State), ∀ i ∈ oraForms n w, ∃ t, exec i s = .next t ∧
        t = { s with
          a := s.a ||| operand i s, sr := t.sr, pc := pcAfter i s, cc := ccAfter i s } ∧
        nzFrom (s.a ||| operand i s) t ∧ onlyFlags [.zero, .negative] s t) ∧
    (decodesTo [0x49#8, 0x45#8, 0x55#8, 0x4D#8, 0x5D#8, 0x59#8, 0x41#8, 0x51#8] eorForms ∧
      ∀ (n : Byte) (w : Word) (s : State), ∀ i ∈ eorForms n w, ∃ t, exec i s = .next t ∧
        t = { s with
          a := s.a ^^^ operand i s, sr := t.sr, pc := pcAfter i s, cc := ccAfter i s } ∧
        nzFrom (s.a ^^^ operand i s) t ∧ onlyFlags [.zero, .negative] s t)

/-- Every form of the four answers a next state in which its operand (A in mode accumulator, the
byte at the resolved address in every other mode) is shifted or rotated one bit where it stands, C
is the bit shifted out, Z and N describe the result, and every other cell, flag and byte is as
before; ROL and ROR shift the old C in, ASL and LSR shift 0 in (rules R160 to R163). The
directions, the 0 shifted in and the opcodes are general knowledge in the spec, PRESUMED:
notes/assumptions/10.md. That absolute,X pays the page-cross cycle is decision D13 of the spec:
notes/assumptions/14.md. -/
def Obligations.ShiftsMoveOneBitThroughCarry : Prop :=
  (decodesTo [0x0A#8, 0x06#8, 0x16#8, 0x0E#8, 0x1E#8] aslForms ∧
      ∀ (n : Byte) (w : Word) (s : State), ∀ i ∈ aslForms n w,
        let v := operand i s
        readsOperand i s v ∧ ∃ t r, exec i s = .next t ∧ modified i s r t ∧
          r.toNat = 2 * v.toNat % 256 ∧ t.flag .carry = decide (128 ≤ v.toNat) ∧ nzFrom r t ∧
          onlyFlags [.carry, .zero, .negative] s t) ∧
    (decodesTo [0x4A#8, 0x46#8, 0x56#8, 0x4E#8, 0x5E#8] lsrForms ∧
      ∀ (n : Byte) (w : Word) (s : State), ∀ i ∈ lsrForms n w,
        let v := operand i s
        readsOperand i s v ∧ ∃ t r, exec i s = .next t ∧ modified i s r t ∧
          r.toNat = v.toNat / 2 ∧ t.flag .carry = decide (v.toNat % 2 = 1) ∧ nzFrom r t ∧
          onlyFlags [.carry, .zero, .negative] s t) ∧
    (decodesTo [0x2A#8, 0x26#8, 0x36#8, 0x2E#8, 0x3E#8] rolForms ∧
      ∀ (n : Byte) (w : Word) (s : State), ∀ i ∈ rolForms n w,
        let v := operand i s
        readsOperand i s v ∧ ∃ t r, exec i s = .next t ∧ modified i s r t ∧
          r.toNat = (2 * v.toNat + carryIn s) % 256 ∧ t.flag .carry = decide (128 ≤ v.toNat) ∧ nzFrom r t ∧
          onlyFlags [.carry, .zero, .negative] s t) ∧
    (decodesTo [0x6A#8, 0x66#8, 0x76#8, 0x6E#8, 0x7E#8] rorForms ∧
      ∀ (n : Byte) (w : Word) (s : State), ∀ i ∈ rorForms n w,
        let v := operand i s
        readsOperand i s v ∧ ∃ t r, exec i s = .next t ∧ modified i s r t ∧
          r.toNat = v.toNat / 2 + 128 * carryIn s ∧ t.flag .carry = decide (v.toNat % 2 = 1) ∧ nzFrom r t ∧
          onlyFlags [.carry, .zero, .negative] s t)

/-- Every form of INC and DEC answers a next state in which the byte at the resolved address is
one more or one less modulo 256; INX, INY, DEX, DEY do the same to their register; Z and N
describe the result, and every other cell, flag and byte is as before (rules R170 to R175). That
INC and DEC absolute,X pay the page-cross cycle is decision D13 of the spec:
notes/assumptions/14.md. The bodies and the opcodes are general knowledge in the spec, PRESUMED:
notes/assumptions/10.md. -/
def Obligations.IncrementsAndDecrementsWrap : Prop :=
  (decodesTo [0xE6#8, 0xF6#8, 0xEE#8, 0xFE#8] incForms ∧
      ∀ (n : Byte) (w : Word) (s : State), ∀ i ∈ incForms n w, ∃ t r, exec i s = .next t ∧
        modified i s r t ∧ r.toNat = ((operand i s).toNat + 1) % 256 ∧ nzFrom r t ∧
        onlyFlags [.zero, .negative] s t) ∧
    (decodesTo [0xC6#8, 0xD6#8, 0xCE#8, 0xDE#8] decForms ∧
      ∀ (n : Byte) (w : Word) (s : State), ∀ i ∈ decForms n w, ∃ t r, exec i s = .next t ∧
        modified i s r t ∧ r.toNat = ((operand i s).toNat + 255) % 256 ∧ nzFrom r t ∧
        onlyFlags [.zero, .negative] s t) ∧
    (∀ (n h : Byte) (s : State), decodeOpcode 0xE8#8 n h = some .inx ∧
      ∃ t r, exec .inx s = .next t ∧
        t = { s with x := r, sr := t.sr, cc := s.cc + Instr.inx.row.base } ∧
        r.toNat = (s.x.toNat + 1) % 256 ∧ nzFrom r t ∧ onlyFlags [.zero, .negative] s t) ∧
    (∀ (n h : Byte) (s : State), decodeOpcode 0xC8#8 n h = some .iny ∧
      ∃ t r, exec .iny s = .next t ∧
        t = { s with y := r, sr := t.sr, cc := s.cc + Instr.iny.row.base } ∧
        r.toNat = (s.y.toNat + 1) % 256 ∧ nzFrom r t ∧ onlyFlags [.zero, .negative] s t) ∧
    (∀ (n h : Byte) (s : State), decodeOpcode 0xCA#8 n h = some .dex ∧
      ∃ t r, exec .dex s = .next t ∧
        t = { s with x := r, sr := t.sr, cc := s.cc + Instr.dex.row.base } ∧
        r.toNat = (s.x.toNat + 255) % 256 ∧ nzFrom r t ∧ onlyFlags [.zero, .negative] s t) ∧
    (∀ (n h : Byte) (s : State), decodeOpcode 0x88#8 n h = some .dey ∧
      ∃ t r, exec .dey s = .next t ∧
        t = { s with y := r, sr := t.sr, cc := s.cc + Instr.dey.row.base } ∧
        r.toNat = (s.y.toNat + 255) % 256 ∧ nzFrom r t ∧ onlyFlags [.zero, .negative] s t)

/-- TAX, TAY, TXA, TYA and TSX answer a next state in which the destination holds the source, Z
and N describe it, and every other cell, flag and byte is as before; TXS answers the next state in
which SP holds X and no flag changes (rules R180 to R185). The bodies and the opcodes are general
knowledge in the spec, PRESUMED: notes/assumptions/10.md. -/
def Obligations.TransfersCopyARegister : Prop :=
  (∀ (n h : Byte) (s : State), decodeOpcode 0xAA#8 n h = some .tax ∧
      ∃ t, exec .tax s = .next t ∧
        t = { s with x := s.a, sr := t.sr, cc := s.cc + Instr.tax.row.base } ∧
        nzFrom s.a t ∧ onlyFlags [.zero, .negative] s t) ∧
    (∀ (n h : Byte) (s : State), decodeOpcode 0xA8#8 n h = some .tay ∧
      ∃ t, exec .tay s = .next t ∧
        t = { s with y := s.a, sr := t.sr, cc := s.cc + Instr.tay.row.base } ∧
        nzFrom s.a t ∧ onlyFlags [.zero, .negative] s t) ∧
    (∀ (n h : Byte) (s : State), decodeOpcode 0x8A#8 n h = some .txa ∧
      ∃ t, exec .txa s = .next t ∧
        t = { s with a := s.x, sr := t.sr, cc := s.cc + Instr.txa.row.base } ∧
        nzFrom s.x t ∧ onlyFlags [.zero, .negative] s t) ∧
    (∀ (n h : Byte) (s : State), decodeOpcode 0x98#8 n h = some .tya ∧
      ∃ t, exec .tya s = .next t ∧
        t = { s with a := s.y, sr := t.sr, cc := s.cc + Instr.tya.row.base } ∧
        nzFrom s.y t ∧ onlyFlags [.zero, .negative] s t) ∧
    (∀ (n h : Byte) (s : State), decodeOpcode 0xBA#8 n h = some .tsx ∧
      ∃ t, exec .tsx s = .next t ∧
        t = { s with x := s.sp, sr := t.sr, cc := s.cc + Instr.tsx.row.base } ∧
        nzFrom s.sp t ∧ onlyFlags [.zero, .negative] s t) ∧
    (∀ (n h : Byte) (s : State), decodeOpcode 0x9A#8 n h = some .txs ∧
      exec .txs s = .next { s with sp := s.x, cc := s.cc + Instr.txs.row.base })

/-- Both forms of BIT answer a next state in which Z is whether A and the operand have no bit in
common, N is bit 7 and V bit 6 of the operand, and every other cell, flag and byte is as before
(rule R190). The opcodes are general knowledge in the spec, PRESUMED: notes/assumptions/10.md. -/
def Obligations.BitTestsTheOperand : Prop :=
  decodesTo [0x24#8, 0x2C#8] bitForms ∧
    ∀ (n : Byte) (w : Word) (s : State), ∀ i ∈ bitForms n w,
      let v := operand i s
      ∃ t, exec i s = .next t ∧
        t = { s with sr := t.sr, pc := pcAfter i s, cc := ccAfter i s } ∧
        (t.flag .zero = true ↔ ∀ k < 8, ¬ (s.a.getLsbD k = true ∧ v.getLsbD k = true)) ∧
        t.flag .negative = decide (128 ≤ v.toNat) ∧
        t.flag .overflow = decide (64 ≤ v.toNat % 128) ∧
        onlyFlags [.zero, .negative, .overflow] s t

/-- Every form of CMP (8), CPX (3) and CPY (3) answers a next state in which C is whether the
register is at least the operand as unsigned bytes, Z whether they are equal, N bit 7 of the
wrapped difference, and every other cell, flag and byte is as before, V included (rules R191 to
R193). The opcodes are general knowledge in the spec, PRESUMED: notes/assumptions/10.md. -/
def Obligations.ComparesWriteFlagsOnly : Prop :=
  (decodesTo [0xC9#8, 0xC5#8, 0xD5#8, 0xCD#8, 0xDD#8, 0xD9#8, 0xC1#8, 0xD1#8] cmpForms ∧
      ∀ (n : Byte) (w : Word) (s : State), ∀ i ∈ cmpForms n w,
        let v := operand i s
        ∃ t, exec i s = .next t ∧
          t = { s with sr := t.sr, pc := pcAfter i s, cc := ccAfter i s } ∧
          t.flag .carry = decide (v.toNat ≤ s.a.toNat) ∧
          t.flag .zero = decide (s.a = v) ∧
          t.flag .negative = decide (128 ≤ (s.a.toNat + 256 - v.toNat) % 256) ∧
          onlyFlags [.carry, .zero, .negative] s t) ∧
    (decodesTo [0xE0#8, 0xE4#8, 0xEC#8] cpxForms ∧
      ∀ (n : Byte) (w : Word) (s : State), ∀ i ∈ cpxForms n w,
        let v := operand i s
        ∃ t, exec i s = .next t ∧
          t = { s with sr := t.sr, pc := pcAfter i s, cc := ccAfter i s } ∧
          t.flag .carry = decide (v.toNat ≤ s.x.toNat) ∧
          t.flag .zero = decide (s.x = v) ∧
          t.flag .negative = decide (128 ≤ (s.x.toNat + 256 - v.toNat) % 256) ∧
          onlyFlags [.carry, .zero, .negative] s t) ∧
    (decodesTo [0xC0#8, 0xC4#8, 0xCC#8] cpyForms ∧
      ∀ (n : Byte) (w : Word) (s : State), ∀ i ∈ cpyForms n w,
        let v := operand i s
        ∃ t, exec i s = .next t ∧
          t = { s with sr := t.sr, pc := pcAfter i s, cc := ccAfter i s } ∧
          t.flag .carry = decide (v.toNat ≤ s.y.toNat) ∧
          t.flag .zero = decide (s.y = v) ∧
          t.flag .negative = decide (128 ≤ (s.y.toNat + 256 - v.toNat) % 256) ∧
          onlyFlags [.carry, .zero, .negative] s t)

/-- BEQ answers the next state of the common branch body with the condition Z = 1: taken, PC at
the next instruction plus the signed offset and one penalty cycle, two if the target is in another
page than the next instruction; not taken, PC past the offset and no penalty; no flag, register or
byte changes. BEQ is relative, two bytes long, has base cycles 2 and controls PC (rules R200,
R203). The opcode is general knowledge in the spec, PRESUMED: notes/assumptions/10.md. -/
def Obligations.BeqBranchesOnZero : Prop :=
  ∀ (n h : Byte) (s : State),
    decodeOpcode 0xF0#8 n h = some (.beq n) ∧ branches (.beq n) n (s.flag .zero) s ∧
      (Instr.beq n).row.mode = .relative ∧ (Instr.beq n).row.length = 2 ∧
      (Instr.beq n).row.base = 2 ∧ (Instr.beq n).row.mnemonic.pcControlling = true

/-- Each of the seven answers the next state of the common branch body (rule R200) with its own
condition: C = 0, C = 1, Z = 0, N = 1, N = 0, V = 0, V = 1 (rules R201, R202, R204 to R208). The
conditions and opcodes are general knowledge in the spec, PRESUMED: notes/assumptions/10.md. -/
def Obligations.OtherBranchesTestTheirFlag : Prop :=
  ∀ (n h : Byte) (s : State),
    (decodeOpcode 0x90#8 n h = some (.bcc n) ∧ branches (.bcc n) n (!s.flag .carry) s) ∧
    (decodeOpcode 0xB0#8 n h = some (.bcs n) ∧ branches (.bcs n) n (s.flag .carry) s) ∧
    (decodeOpcode 0xD0#8 n h = some (.bne n) ∧ branches (.bne n) n (!s.flag .zero) s) ∧
    (decodeOpcode 0x30#8 n h = some (.bmi n) ∧ branches (.bmi n) n (s.flag .negative) s) ∧
    (decodeOpcode 0x10#8 n h = some (.bpl n) ∧ branches (.bpl n) n (!s.flag .negative) s) ∧
    (decodeOpcode 0x50#8 n h = some (.bvc n) ∧ branches (.bvc n) n (!s.flag .overflow) s) ∧
    (decodeOpcode 0x70#8 n h = some (.bvs n) ∧ branches (.bvs n) n (s.flag .overflow) s)

/-- Each of the seven answers a next state in which its flag has its constant, every other flag,
register and byte is as before and CC has advanced (rules R210 to R216). The bodies and the
opcodes are general knowledge in the spec, PRESUMED: notes/assumptions/10.md. -/
def Obligations.FlagInstructionsWriteOneFlag : Prop :=
  ∀ (n h : Byte) (s : State),
    (decodeOpcode 0x18#8 n h = some .clc ∧ ∃ t, exec .clc s = .next t ∧
      t = { s with sr := t.sr, cc := s.cc + Instr.clc.row.base } ∧
      t.flag .carry = false ∧ onlyFlags [.carry] s t) ∧
    (decodeOpcode 0x38#8 n h = some .sec ∧ ∃ t, exec .sec s = .next t ∧
      t = { s with sr := t.sr, cc := s.cc + Instr.sec.row.base } ∧
      t.flag .carry = true ∧ onlyFlags [.carry] s t) ∧
    (decodeOpcode 0xD8#8 n h = some .cld ∧ ∃ t, exec .cld s = .next t ∧
      t = { s with sr := t.sr, cc := s.cc + Instr.cld.row.base } ∧
      t.flag .decimal = false ∧ onlyFlags [.decimal] s t) ∧
    (decodeOpcode 0xF8#8 n h = some .sed ∧ ∃ t, exec .sed s = .next t ∧
      t = { s with sr := t.sr, cc := s.cc + Instr.sed.row.base } ∧
      t.flag .decimal = true ∧ onlyFlags [.decimal] s t) ∧
    (decodeOpcode 0x58#8 n h = some .cli ∧ ∃ t, exec .cli s = .next t ∧
      t = { s with sr := t.sr, cc := s.cc + Instr.cli.row.base } ∧
      t.flag .interruptDisable = false ∧ onlyFlags [.interruptDisable] s t) ∧
    (decodeOpcode 0x78#8 n h = some .sei ∧ ∃ t, exec .sei s = .next t ∧
      t = { s with sr := t.sr, cc := s.cc + Instr.sei.row.base } ∧
      t.flag .interruptDisable = true ∧ onlyFlags [.interruptDisable] s t) ∧
    (decodeOpcode 0xB8#8 n h = some .clv ∧ ∃ t, exec .clv s = .next t ∧
      t = { s with sr := t.sr, cc := s.cc + Instr.clv.row.base } ∧
      t.flag .overflow = false ∧ onlyFlags [.overflow] s t)

/-- BRK answers, in every state and whatever I is, the next state in which the opcode address + 2
is pushed high byte first, then SR with B and bit 5 at 1 and I as before; B and I are 1 and every
other flag is as before; SP is 3 less modulo 256; PC is the little-endian word at 0xFFFE/0xFFFF;
A, X, Y and every byte outside the three slots are as before (rule R245). That BRK sets B in the
register, not in the pushed byte alone, is decision D9 of the spec: notes/assumptions/8.md. -/
def Obligations.BrkTakesTheTrap : Prop :=
  ∀ (n h : Byte) (s : State), decodeOpcode 0x00#8 n h = some .brk ∧
    ∃ t, exec .brk s = .next t ∧
      t = { s with
        sp := s.sp - 3, sr := t.sr, cc := s.cc + Instr.brk.row.base,
        pc := Word.ofBytes (s.readByte 0xFFFF#16) (s.readByte 0xFFFE#16),
        mem := Memory.write
          (Memory.write (Memory.write s.mem (stackAddr s.sp) (s.pc + 1).hi)
            (stackAddr (s.sp - 1)) (s.pc + 1).lo)
          (stackAddr (s.sp - 2)) (s.readSr ||| 0x30#8) } ∧
      t.flag .brk = true ∧ t.flag .interruptDisable = true ∧
      onlyFlags [.brk, .interruptDisable] s t

/-- RTI answers, in every state, the next state in which N, V, D, I, Z, C are those of the byte
popped first, B is as before, bit 5 is 1, PC is the word popped next, SP is 3 more modulo 256, and
every other cell and every byte is as before (rule R246). That RTI keeps B as it was is decision
D10 of the spec: notes/assumptions/9.md. The opcode is general knowledge in the spec, PRESUMED:
notes/assumptions/10.md. -/
def Obligations.RtiReturnsFromTheTrap : Prop :=
  ∀ (n h : Byte) (s : State), decodeOpcode 0x40#8 n h = some .rti ∧
    ∃ t, exec .rti s = .next t ∧
      t = { s with
        sp := s.sp + 3, sr := t.sr, cc := s.cc + Instr.rti.row.base,
        pc := Word.ofBytes (s.readByte (stackAddr (s.sp + 3))) (s.readByte (stackAddr (s.sp + 2))) } ∧
      t.flag .brk = s.flag .brk ∧ t.flag .unused = true ∧
      ∀ f, f ≠ .brk → f ≠ .unused →
        t.flag f = (s.readByte (stackAddr (s.sp + 1))).getLsbD f.index.val

/-- JMP absolute answers the next state with PC at the operand word; JMP indirect with PC at the
page-wrapped word at the operand word; nothing else but CC changes (rule R221). The bodies and the
opcodes are general knowledge in the spec, PRESUMED: notes/assumptions/10.md. -/
def Obligations.JmpSetsPc : Prop :=
  decodesTo [0x4C#8, 0x6C#8] jmpForms ∧
    ∀ (w : Word) (s : State),
      exec (.jmpAbsolute w) s =
          .next { s with pc := w, cc := s.cc + (Instr.jmpAbsolute w).row.base } ∧
        exec (.jmpIndirect w) s =
          .next { s with
            pc := hostReadWord w.toNat true s, cc := s.cc + (Instr.jmpIndirect w).row.base }

/-- JSR answers, in every state, the next state in which opcode address + 2 is pushed high byte
first at 0x0100 + SP and one slot below, SP is 2 less modulo 256, PC is the operand word, CC has
advanced and every other cell, flag and byte is as before. The operand word is the instruction's,
read before the pushes: decision D22 of the spec, notes/assumptions/17.md. The base cycles are 6,
an entry of the table BASE_CYCLES: decision D12, notes/assumptions/2.md. The opcode is general
knowledge in the spec, PRESUMED: notes/assumptions/10.md. (Rule R222.) -/
def Obligations.JsrPushesTheReturnAddress : Prop :=
  decodesTo [0x20#8] jsrForms ∧
    ∀ (w : Word) (s : State),
      exec (.jsrAbsolute w) s = .next
        { s with
          pc := w, sp := s.sp - 2, cc := s.cc + (Instr.jsrAbsolute w).row.base,
          mem := Memory.write (Memory.write s.mem (stackAddr s.sp) (s.pc + 1).hi)
            (stackAddr (s.sp - 1)) (s.pc + 1).lo } ∧
        (Instr.jsrAbsolute w).row.base = 6

/-- RTS answers, in every state, the next state in which PC is the word popped plus one modulo
2^16, SP is 2 more modulo 256, CC has advanced and every other cell, flag and byte is as before.
The base cycles are 6, an entry of the table BASE_CYCLES: decision D12 of the spec,
notes/assumptions/2.md. The opcode is general knowledge in the spec, PRESUMED:
notes/assumptions/10.md. (Rule R223.) -/
def Obligations.RtsReturnsPastTheJump : Prop :=
  ∀ (n h : Byte) (s : State), decodeOpcode 0x60#8 n h = some .rts ∧
    Instr.rts.row.base = 6 ∧
    ∃ t, exec .rts s = .next t ∧
      t = { s with pc := t.pc, sp := s.sp + 2, cc := s.cc + Instr.rts.row.base } ∧
      t.pc.toNat =
        ((s.readByte (stackAddr (s.sp + 2))).toNat * 256 +
          (s.readByte (stackAddr (s.sp + 1))).toNat + 1) % 65536

/-- PHP answers, in every state, the next state in which the byte at 0x0100 + SP is SR with bits 4
and 5 at 1, SP is 1 less modulo 256, CC has advanced and every other cell, flag and byte is as
before, B in SR included. The base cycles are 3, an entry of the table BASE_CYCLES: decision D12
of the spec, notes/assumptions/2.md. The opcode is general knowledge in the spec, PRESUMED:
notes/assumptions/10.md. (Rule R226.) -/
def Obligations.PhpPushesSrWithBreak : Prop :=
  ∀ (n h : Byte) (s : State), decodeOpcode 0x08#8 n h = some .php ∧
    Instr.php.row.base = 3 ∧
    ∃ v : Byte,
      exec .php s = .next
        { s with
          sp := s.sp - 1, cc := s.cc + Instr.php.row.base,
          mem := Memory.write s.mem (stackAddr s.sp) v } ∧
      v.getLsbD 4 = true ∧ v.getLsbD 5 = true ∧
      ∀ f : Flag, f ≠ .brk → f ≠ .unused → v.getLsbD f.index.val = s.flag f

/-- PHA answers the next state with A stored at 0x0100 + SP and SP one less; PLA with A from the
first slot above SP, SP one more, Z and N from A; PLP with every flag but Unused from the byte in
that slot, SP one more; every other cell, flag and byte is as before (rules R225, R227, R228). The
bodies of PHA and PLA and the three opcodes are general knowledge in the spec, PRESUMED:
notes/assumptions/10.md. That PLP loads B is decision D10 of the spec: notes/assumptions/9.md. -/
def Obligations.PhaPlaPlpMoveThroughTheStack : Prop :=
  ∀ (n h : Byte) (s : State),
    (decodeOpcode 0x48#8 n h = some .pha ∧
      exec .pha s = .next
        { s with
          sp := s.sp - 1, cc := s.cc + Instr.pha.row.base,
          mem := Memory.write s.mem (stackAddr s.sp) s.a }) ∧
    (decodeOpcode 0x68#8 n h = some .pla ∧ ∃ t, exec .pla s = .next t ∧
      t = { s with
        a := s.readByte (stackAddr (s.sp + 1)), sp := s.sp + 1, sr := t.sr,
        cc := s.cc + Instr.pla.row.base } ∧
      nzFrom t.a t ∧ onlyFlags [.zero, .negative] s t) ∧
    (decodeOpcode 0x28#8 n h = some .plp ∧ ∃ t, exec .plp s = .next t ∧
      t = { s with sp := s.sp + 1, sr := t.sr, cc := s.cc + Instr.plp.row.base } ∧
      t.flag .unused = true ∧
      ∀ f, f ≠ .unused → t.flag f = (s.readByte (stackAddr (s.sp + 1))).getLsbD f.index.val)

/-- NOP answers the next state in which CC has advanced and every other cell, flag and byte is as
before; PC was bumped before it (rule R229). The bodies and the opcodes are general knowledge in
the spec, PRESUMED: notes/assumptions/10.md. -/
def Obligations.NopOnlyCountsCycles : Prop :=
  ∀ (n h : Byte) (s : State), decodeOpcode 0xEA#8 n h = some .nop ∧
    exec .nop s = .next { s with cc := s.cc + Instr.nop.row.base }

/-- For memory in canonical form: if a handler entered by BRK runs RTI with SP as the BRK left it,
the three pushed bytes intact and B still 1, then SP and every flag but B are as before the BRK, B
is 1, PC is the opcode address + 2, and A, X, Y and memory are the handler's (rule R248, which the
spec marks derived). B rests on decisions D9 and D10 of the spec: notes/assumptions/8.md,
notes/assumptions/9.md. -/
def Obligations.BrkThenRtiResumes : Prop :=
  ∀ s t h : State, Memory.wf s.mem → exec .brk s = .next t → h.sp = t.sp →
    h.flag .brk = true →
    (∀ k ∈ [s.sp, s.sp - 1, s.sp - 2], h.readByte (stackAddr k) = t.readByte (stackAddr k)) →
    ∃ u, exec .rti h = .next u ∧ u.sp = s.sp ∧ u.pc = s.pc + 1 ∧ u.flag .brk = true ∧
      onlyFlags [.brk] s u ∧ u.a = h.a ∧ u.x = h.x ∧ u.y = h.y ∧ u.mem = h.mem ∧
      u.cc = h.cc + Instr.rti.row.base

/-- For memory in canonical form: if a subroutine entered by JSR runs RTS with SP as the JSR left
it and the two pushed bytes intact, then SP is as before the JSR and PC is the opcode address + 3,
the instruction after it; A, X, Y, SR and memory are the subroutine's (rules R222, R223). -/
def Obligations.JsrThenRtsResumes : Prop :=
  ∀ (w : Word) (s t h : State), Memory.wf s.mem → exec (.jsrAbsolute w) s = .next t →
    h.sp = t.sp →
    (∀ k ∈ [s.sp, s.sp - 1], h.readByte (stackAddr k) = t.readByte (stackAddr k)) →
    ∃ u, exec .rts h = .next u ∧ u.sp = s.sp ∧ u.pc = s.pc + 2 ∧ u.a = h.a ∧ u.x = h.x ∧
      u.y = h.y ∧ u.sr = h.sr ∧ u.mem = h.mem

/-- For every instruction with every operand and every state, exec answers a next state: no memory
access fails, no arithmetic traps, no instruction waits or halts (rules R9, R107, R240). -/
def Obligations.EveryInstructionCompletes : Prop :=
  ∀ (i : Instr) (s : State), ∃ t, exec i s = .next t

/-- If the bytes at PC, PC + 1, PC + 2 (modulo 2^16) start with a well-formed instruction's
encoding, step is exec of that instruction on the state with PC raised by one; exec advances PC
past the operand bytes and counts the cycles itself (rules R100 to R106). -/
def Obligations.StepRunsTheDecodedInstruction : Prop :=
  ∀ (s : State) (i : Instr) (rest : List Byte), i.wellFormed = true →
    decode [s.readByte s.pc, s.readByte (s.pc + 1), s.readByte (s.pc + 2)] = .ok (i, rest) →
    step s = exec i { s with pc := s.pc + 1 }

/-- For every state: if the byte at PC selects a row of the table, step answers a next state, of
which the host finds exactly that state and its CC; if it selects none, step ends in UnknownOpcode
with that byte and that address; there is no other outcome, in particular no StatusBitError and no
refusal; and the answer depends on the state alone (rule R107). Which bytes select no row is
decision D5 of the spec (notes/assumptions/12.md); that the fault records the opcode's address is
decision D8, rule R241 (notes/assumptions/3.md). -/
def Obligations.StepCompletesOrFaults : Prop :=
  ∀ s : State,
    (optab (s.readByte s.pc) ≠ none ∧
      ∃ t, step s = .next t ∧ hostStep s = (t, .cycles t.cc)) ∨
      (optab (s.readByte s.pc) = none ∧ step s = .fault (.unknownOpcode (s.readByte s.pc) s.pc))

/-- When the opcode at PC is defined the host's step leaves the next state and returns its CC;
when it is undefined every cell and byte is as before except PC, which is the opcode's address or
that address + 1, and the result is UnknownOpcode with the byte and the opcode's address. Both
values of the open parameter UNK_PC_BUMP are covered (rules R241, R284; decision D8:
notes/assumptions/3.md). That step returns CC and no mnemonic is decision D21:
notes/assumptions/16.md. -/
def Obligations.HostStepReportsCyclesOrTheFault : Prop :=
  ∀ s : State,
    (optab (s.readByte s.pc) ≠ none →
      ∃ t, step s = .next t ∧ hostStep s = (t, .cycles t.cc)) ∧
      (optab (s.readByte s.pc) = none →
        ∃ p, (p = s.pc ∨ p = s.pc + 1) ∧
          hostStep s = ({ s with pc := p }, .error (.unknownOpcode (s.readByte s.pc) s.pc)))

/-- If a step completes and its instruction is none of JMP, JSR, RTS, RTI, BRK and the eight
branches, PC afterwards is the opcode's address plus the instruction's length, modulo 2^16; for
those listed step 5 of the driver leaves the state alone. -/
def Obligations.StepAdvancesPastTheInstruction : Prop :=
  (∀ (s t : State) (i : Instr) (rest : List Byte), decode (fetchBytes s) = .ok (i, rest) →
      i.row.mnemonic ∉ [Mnemonic.jmp, .jsr, .rts, .rti, .brk, .bcc, .bcs, .beq, .bne, .bmi, .bpl,
        .bvc, .bvs] →
      step s = .next t → t.pc.toNat = (s.pc.toNat + (encode i).length) % 65536) ∧
    ∀ (i : Instr) (s : State),
      i.row.mnemonic ∈ [Mnemonic.jmp, .jsr, .rts, .rti, .brk, .bcc, .bcs, .beq, .bne, .bmi, .bpl,
        .bvc, .bvs] →
      advancePc i s = s

/-- Every instruction raises CC by its row's base cycles plus a penalty: 0 for every mode but
four; the mode's own 0 or 1 for absolute,X, absolute,Y and (indirect),Y, whatever the mnemonic;
for a branch 0 with PC at the next instruction, or the mode's 1 or 2 with PC at the target. A step
that faults leaves CC as it was (rule R106). That every mnemonic pays its mode's page-cross cycle,
stores and modify instructions included, is decision D13 of the spec: notes/assumptions/14.md. -/
def Obligations.CyclesAreBasePlusPenalty : Prop :=
  (∀ (i : Instr) (s : State), ∃ t p, exec i s = .next t ∧ t.cc = s.cc + i.row.base + p ∧
      (i.row.mode ∉ [Mode.absoluteX, .absoluteY, .indirectY, .relative] → p = 0) ∧
      (i.row.mode ∈ [Mode.absoluteX, .absoluteY, .indirectY] → p = penalty i s ∧ p ≤ 1) ∧
      (i.row.mode = .relative →
        (p = 0 ∧ t.pc = s.pc + 1) ∨
          (p = penalty i s ∧ 1 ≤ p ∧ p ≤ 2 ∧ (resolve i.form s).op = .addr t.pc))) ∧
    ∀ s : State, optab (s.readByte s.pc) = none → (hostStep s).1.cc = s.cc

/-- If a step completes, CC is at least 2 and at most 8 more than before: CC increases with every
completed step (rule R28). The bounds rest on the default table BASE_CYCLES, decision D12 of the
spec (notes/assumptions/2.md), and the 8 on the page-cross cycle of a modify instruction, decision
D13 (notes/assumptions/14.md). -/
def Obligations.EveryStepCountsTwoToEightCycles : Prop :=
  ∀ s t : State, step s = .next t → s.cc + 2 ≤ t.cc ∧ t.cc ≤ s.cc + 8

/-- For every state in which memory is in canonical form and the stored bit 5 of SR is 1,
reachable or not, a completed step leaves both so (rules R29, R35); the widths of the registers
hold by their types. Canonical memory is the model's own form (notes/assumptions/5.md), bit 5
under writes decision D14 of the spec (notes/assumptions/7.md). -/
def Obligations.StepKeepsTheInvariant : Prop :=
  ∀ s t : State, s.Inv → step s = .next t → t.Inv

/-- The state after reset has its memory in canonical form and the stored bit 5 of SR at 1. -/
def Obligations.ResetMeetsTheInvariant : Prop :=
  State.reset.Inv

/-- From every state the host's reset gives PC 0xFFFC, SP 0xFF, SR 0x30, A, X, Y and CC 0, and
every memory byte 0x00; reset twice is reset once (rules R43, R270, R271). The memory bytes are
decision D2 of the spec: notes/assumptions/1.md. That PC is a constant and not the word at 0xFFFC
is the spec's choice in its conflict C1: notes/assumptions/18.md. -/
def Obligations.ResetLeavesTheStatedValues : Prop :=
  ∀ (s : State) (b : Nat),
    let t := hostReset s
    hostReadReg .pc t = 0xFFFC ∧ hostReadReg .sp t = 0xFF ∧ hostReadReg .sr t = 0x30 ∧
      hostReadReg .a t = 0 ∧ hostReadReg .x t = 0 ∧ hostReadReg .y t = 0 ∧
      hostReadReg .cc t = 0 ∧ hostReadByte b t = 0#8 ∧ hostReset t = t

/-- From every state that meets the invariant, write_byte, write_word, write_range, a register
write, a flag write, step (completed or faulting), reset and load_image of any image leave a state
that meets it (rules R280 to R283). The forms of these operations are decisions D14, D16, D19 and
D23 of the spec: notes/assumptions/7.md, notes/assumptions/16.md. -/
def Obligations.HostOperationsKeepTheInvariant : Prop :=
  ∀ (s : State) (a v : Nat) (bytes : List Byte) (r : Reg) (f : Flag) (cpu : CpuImage)
    (ram : List Nat), s.Inv →
    (hostWriteByte a v s).Inv ∧ (hostWriteWord a v s).Inv ∧ (hostWriteReg r v s).Inv ∧
      (hostReset s).Inv ∧ (hostStep s).1.Inv ∧
      (∀ t, hostWriteRange a bytes s = .next t → t.Inv) ∧
      (∀ t, hostWriteFlag f v s = .next t → t.Inv) ∧
      (∀ t, hostLoadImage cpu ram s = .next t → t.Inv)

/-- For every state that meets the invariant, loading its saved image into any state gives that
state back; load_image of a memory that is not 65,536 bytes is refused; otherwise every register
reads the value given wrapped to its width and every byte the value given modulo 256 (rule R283,
decision D19: notes/assumptions/16.md). -/
def Obligations.SavedImageLoadsBack : Prop :=
  ∀ (s u : State) (cpu : CpuImage) (ram : List Nat),
    (s.Inv → hostLoadImage (hostSaveImage s).1 (hostSaveImage s).2 u = .next s) ∧
      (ram.length ≠ 65536 → hostLoadImage cpu ram u = .refused .imageSizeRefused) ∧
      (ram.length = 65536 → ∃ t, hostLoadImage cpu ram u = .next t ∧
        t.pc.toNat = cpu.pc % 65536 ∧ t.sp.toNat = cpu.sp % 256 ∧
        t.sr.toNat = cpu.sr % 256 ||| 32 ∧ t.x.toNat = cpu.x % 256 ∧ t.y.toNat = cpu.y % 256 ∧
        t.a.toNat = cpu.a % 256 ∧ t.cc = cpu.cc ∧
        ∀ k, k < 65536 → (hostReadByte k t).toNat = ram.getD k 0 % 256)

/-- For every state and every k: a step on the state with k more cycles gives the same outcome,
with k more cycles in the next state; no register, flag, byte, fault or cycle increment depends on
CC (rules R28, R292). -/
def Obligations.NothingDependsOnTheCycleCount : Prop :=
  ∀ (s : State) (k : Nat),
    step { s with cc := s.cc + k } =
      match step s with
      | .next t => .next { t with cc := t.cc + k }
      | .fault f => .fault f
      | .refused r => .refused r

/-- For every form of ADC and SBC: with D set or cleared beforehand, the next state is the same
but for D itself, which is unchanged (rules R33, R149; decision D4: notes/assumptions/11.md). -/
def Obligations.DecimalFlagHasNoEffect : Prop :=
  ∀ (n : Byte) (w : Word) (s : State) (d : Bool), ∀ i ∈ adcForms n w ++ sbcForms n w,
    ∃ t, exec i s = .next t ∧ exec i (s.setFlag .decimal d) = .next (t.setFlag .decimal d)

/-- For every instruction and every flag outside the mnemonic's row of the table of rule R39, the
flag reads after the instruction as before; the exceptions are exactly those rows. Parts of the
table are general knowledge in the spec, PRESUMED (notes/assumptions/10.md); B in the rows of BRK,
RTI and PLP rests on decisions D9 and D10 (notes/assumptions/8.md, notes/assumptions/9.md). -/
def Obligations.FlagFrame : Prop :=
  ∀ (i : Instr) (s t : State), exec i s = .next t →
    onlyFlags (flagsWritten i.row.mnemonic) s t

/-- For every instruction: A is unchanged unless it is ADC, SBC, AND, ORA, EOR, LDA, PLA, TXA, TYA
or a shift in accumulator mode; X unless LDX, TAX, TSX, INX, DEX; Y unless LDY, TAY, INY, DEY; SP
unless TXS, BRK, JSR, RTS, RTI, PHA, PHP, PLA, PLP (rules R23 to R26). The bodies of most of these
are general knowledge in the spec, PRESUMED: notes/assumptions/10.md. -/
def Obligations.RegisterFrame : Prop :=
  ∀ (i : Instr) (s t : State), exec i s = .next t →
    (i.row.mnemonic ∉ writesA → i.row.mode ≠ .accumulator → t.a = s.a) ∧
      (i.row.mnemonic ∉ writesX → t.x = s.x) ∧
      (i.row.mnemonic ∉ writesY → t.y = s.y) ∧
      (i.row.mnemonic ∉ writesSp → t.sp = s.sp)

/-- For every instruction and every address: the byte there reads after the instruction as before,
unless the instruction stores through its resolved operand (STA, STX, STY, the shifts, INC, DEC)
and that operand is the address, or the instruction pushes (BRK 3 bytes, JSR 2, PHA and PHP 1) and
the address is one of the pushed slots; an instruction that neither stores nor pushes leaves
memory equal. Which mnemonics store is in part general knowledge in the spec, PRESUMED:
notes/assumptions/10.md. -/
def Obligations.MemoryFrame : Prop :=
  ∀ (i : Instr) (s t : State), exec i s = .next t →
    (∀ b : Word,
      ¬ (i.row.mnemonic ∈ storesOperand ∧ (resolve i.form s).op = .addr b) →
      b ∉ pushedSlots s.sp (bytesPushed i.row.mnemonic) →
      t.readByte b = s.readByte b) ∧
      ((i.row.mnemonic ∉ storesOperand ∨ i.row.mode = .accumulator) →
        bytesPushed i.row.mnemonic = 0 → t.mem = s.mem)
end

