-- ==== Sys2Proof/Laws/Word.lean ====
section
/-! SUPPORT. Splitting a word into its bytes and joining them again. -/

namespace Sys2Proof

theorem Word.lo_toNat (w : Word) : w.lo.toNat = w.toNat % 256 := by
  simp [Word.lo]

theorem Word.hi_toNat (w : Word) : w.hi.toNat = w.toNat / 256 := by
  have h := w.isLt
  simp only [Word.hi, BitVec.extractLsb'_toNat, Nat.shiftRight_eq_div_pow]
  omega

theorem Word.ofBytes_toNat (h l : Byte) : (Word.ofBytes h l).toNat = h.toNat * 256 + l.toNat := by
  have hl := l.isLt
  rw [Word.ofBytes, BitVec.toNat_append, ← Nat.shiftLeft_add_eq_or_of_lt hl, Nat.shiftLeft_eq]

@[simp] theorem Word.ofBytes_hi_lo (w : Word) : Word.ofBytes w.hi w.lo = w := by
  apply BitVec.eq_of_toNat_eq
  rw [Word.ofBytes_toNat, Word.hi_toNat, Word.lo_toNat]
  omega

@[simp] theorem Word.ofBytes_lo (h l : Byte) : (Word.ofBytes h l).lo = l := by
  apply BitVec.eq_of_toNat_eq
  rw [Word.lo_toNat, Word.ofBytes_toNat]
  have := l.isLt
  omega

@[simp] theorem Word.ofBytes_hi (h l : Byte) : (Word.ofBytes h l).hi = h := by
  apply BitVec.eq_of_toNat_eq
  rw [Word.hi_toNat, Word.ofBytes_toNat]
  have := l.isLt
  omega

theorem Byte.zext_toNat (b : Byte) : b.zext.toNat = b.toNat := by
  have := b.isLt
  simp only [Byte.zext, BitVec.toNat_setWidth]
  omega

/-- Bit 7 of a byte, as a bound on its value. -/
theorem Byte.getLsbD_seven (v : Byte) : v.getLsbD 7 = decide (128 ≤ v.toNat) := by
  have := v.isLt
  rw [BitVec.getLsbD, Nat.testBit_eq_decide_div_mod_eq]
  simp
  omega

/-- Bit 0 of a byte, as its remainder. -/
theorem Byte.getLsbD_zero (v : Byte) : v.getLsbD 0 = decide (v.toNat % 2 = 1) := by
  rw [BitVec.getLsbD, Nat.testBit_eq_decide_div_mod_eq]
  simp

/-- A sign-extended byte, modulo 2^16. -/
theorem Byte.sext_toNat (b : Byte) :
    b.sext.toNat = b.toNat + if 128 ≤ b.toNat then 0xFF00 else 0 := by
  have := b.isLt
  have hm : b.msb = decide (128 ≤ b.toNat) := by rw [BitVec.msb_eq_decide]
  rw [Byte.sext, BitVec.toNat_signExtend, hm]
  simp
  omega

theorem Word.add_toNat (a b : Word) : (a + b).toNat = (a.toNat + b.toNat) % 65536 :=
  BitVec.toNat_add a b

theorem Byte.add_toNat (a b : Byte) : (a + b).toNat = (a.toNat + b.toNat) % 256 :=
  BitVec.toNat_add a b

theorem Byte.sub_one_toNat (a : Byte) : (a - 1).toNat = (a.toNat + 255) % 256 := by
  have := a.isLt
  simp [BitVec.toNat_sub]
  omega

end Sys2Proof
end

