-- ==== Sys2Proof/Laws/Decode.lean ====
section
/-! SUPPORT. What the opcode dispatch answers, said once for all 256 opcodes. -/

namespace Sys2Proof

/-- A row has one, two or three bytes. -/
theorem row_length_bounds (i : Instr) : 1 ≤ i.row.length ∧ i.row.length ≤ 3 := by
  cases i <;> exact ⟨Nat.le_of_ble_eq_true rfl, Nat.le_of_ble_eq_true rfl⟩

/-- What the dispatch answers stands under the opcode looked up and carries the operand bytes given
to it, as many as its length says. -/
theorem decodeOpcode_some {o n h : Byte} {i : Instr} (hd : decodeOpcode o n h = some i) :
    i.row.opcode = o ∧ i.form.operandBytes = [n, h].take (i.row.length - 1) := by
  unfold decodeOpcode at hd
  split at hd <;> first
    | (cases hd; exact ⟨rfl, rfl⟩)
    | (cases hd; exact ⟨rfl, by simp [Instr.form, Form.operandBytes, Instr.row]⟩)
    | cases hd

/-- The opcode of an instruction is defined, whatever bytes follow it, and selects its row. -/
theorem decodeOpcode_row (i : Instr) (n h : Byte) :
    ∃ j, decodeOpcode i.row.opcode n h = some j ∧ j.row = i.row := by
  cases i <;> exact ⟨_, rfl, rfl⟩

/-- Whether an opcode is defined does not depend on the bytes after it. -/
theorem decodeOpcode_none {o n h : Byte} (hd : decodeOpcode o n h = none) (n' h' : Byte) :
    decodeOpcode o n' h' = none := by
  cases hd' : decodeOpcode o n' h' with
  | none => rfl
  | some i =>
    obtain ⟨j, hj, -⟩ := decodeOpcode_row i n h
    rw [(decodeOpcode_some hd').1, hd] at hj
    cases hj

/-- Decoding three bytes is the dispatch on the first: it fails for an undefined opcode only. -/
theorem decode_three (o n h : Byte) :
    decode [o, n, h] =
      match decodeOpcode o n h with
      | none => .error (.undefinedOpcode o)
      | some i => .ok (i, [n, h].drop (i.row.length - 1)) := by
  simp only [decode]
  have e0 : [n, h].getD 0 0#8 = n := rfl
  have e1 : [n, h].getD 1 0#8 = h := rfl
  rw [e0, e1]
  cases decodeOpcode o n h with
  | none => rfl
  | some i => exact if_pos (row_length_bounds i).2

end Sys2Proof
end

