-- ==== Sys2Proof/Laws/State.lean ====
section
/-! SUPPORT. One lemma per field per update of the state, each true by `rfl`. -/

namespace Sys2Proof.Machine

@[simp] theorem State.setA_pc (s : State) (v : Byte) : (s.setA v).pc = s.pc := rfl
@[simp] theorem State.setA_sp (s : State) (v : Byte) : (s.setA v).sp = s.sp := rfl
@[simp] theorem State.setA_sr (s : State) (v : Byte) : (s.setA v).sr = s.sr := rfl
@[simp] theorem State.setA_a (s : State) (v : Byte) : (s.setA v).a = v := rfl
@[simp] theorem State.setA_x (s : State) (v : Byte) : (s.setA v).x = s.x := rfl
@[simp] theorem State.setA_y (s : State) (v : Byte) : (s.setA v).y = s.y := rfl
@[simp] theorem State.setA_cc (s : State) (v : Byte) : (s.setA v).cc = s.cc := rfl
@[simp] theorem State.setA_mem (s : State) (v : Byte) : (s.setA v).mem = s.mem := rfl

@[simp] theorem State.setX_pc (s : State) (v : Byte) : (s.setX v).pc = s.pc := rfl
@[simp] theorem State.setX_sp (s : State) (v : Byte) : (s.setX v).sp = s.sp := rfl
@[simp] theorem State.setX_sr (s : State) (v : Byte) : (s.setX v).sr = s.sr := rfl
@[simp] theorem State.setX_a (s : State) (v : Byte) : (s.setX v).a = s.a := rfl
@[simp] theorem State.setX_x (s : State) (v : Byte) : (s.setX v).x = v := rfl
@[simp] theorem State.setX_y (s : State) (v : Byte) : (s.setX v).y = s.y := rfl
@[simp] theorem State.setX_cc (s : State) (v : Byte) : (s.setX v).cc = s.cc := rfl
@[simp] theorem State.setX_mem (s : State) (v : Byte) : (s.setX v).mem = s.mem := rfl

@[simp] theorem State.setY_pc (s : State) (v : Byte) : (s.setY v).pc = s.pc := rfl
@[simp] theorem State.setY_sp (s : State) (v : Byte) : (s.setY v).sp = s.sp := rfl
@[simp] theorem State.setY_sr (s : State) (v : Byte) : (s.setY v).sr = s.sr := rfl
@[simp] theorem State.setY_a (s : State) (v : Byte) : (s.setY v).a = s.a := rfl
@[simp] theorem State.setY_x (s : State) (v : Byte) : (s.setY v).x = s.x := rfl
@[simp] theorem State.setY_y (s : State) (v : Byte) : (s.setY v).y = v := rfl
@[simp] theorem State.setY_cc (s : State) (v : Byte) : (s.setY v).cc = s.cc := rfl
@[simp] theorem State.setY_mem (s : State) (v : Byte) : (s.setY v).mem = s.mem := rfl

@[simp] theorem State.setSp_pc (s : State) (v : Byte) : (s.setSp v).pc = s.pc := rfl
@[simp] theorem State.setSp_sp (s : State) (v : Byte) : (s.setSp v).sp = v := rfl
@[simp] theorem State.setSp_sr (s : State) (v : Byte) : (s.setSp v).sr = s.sr := rfl
@[simp] theorem State.setSp_a (s : State) (v : Byte) : (s.setSp v).a = s.a := rfl
@[simp] theorem State.setSp_x (s : State) (v : Byte) : (s.setSp v).x = s.x := rfl
@[simp] theorem State.setSp_y (s : State) (v : Byte) : (s.setSp v).y = s.y := rfl
@[simp] theorem State.setSp_cc (s : State) (v : Byte) : (s.setSp v).cc = s.cc := rfl
@[simp] theorem State.setSp_mem (s : State) (v : Byte) : (s.setSp v).mem = s.mem := rfl

@[simp] theorem State.setSr_pc (s : State) (v : Byte) : (s.setSr v).pc = s.pc := rfl
@[simp] theorem State.setSr_sp (s : State) (v : Byte) : (s.setSr v).sp = s.sp := rfl
@[simp] theorem State.setSr_sr (s : State) (v : Byte) : (s.setSr v).sr = v ||| 0x20#8 := rfl
@[simp] theorem State.setSr_a (s : State) (v : Byte) : (s.setSr v).a = s.a := rfl
@[simp] theorem State.setSr_x (s : State) (v : Byte) : (s.setSr v).x = s.x := rfl
@[simp] theorem State.setSr_y (s : State) (v : Byte) : (s.setSr v).y = s.y := rfl
@[simp] theorem State.setSr_cc (s : State) (v : Byte) : (s.setSr v).cc = s.cc := rfl
@[simp] theorem State.setSr_mem (s : State) (v : Byte) : (s.setSr v).mem = s.mem := rfl

@[simp] theorem State.setPc_pc (s : State) (v : Word) : (s.setPc v).pc = v := rfl
@[simp] theorem State.setPc_sp (s : State) (v : Word) : (s.setPc v).sp = s.sp := rfl
@[simp] theorem State.setPc_sr (s : State) (v : Word) : (s.setPc v).sr = s.sr := rfl
@[simp] theorem State.setPc_a (s : State) (v : Word) : (s.setPc v).a = s.a := rfl
@[simp] theorem State.setPc_x (s : State) (v : Word) : (s.setPc v).x = s.x := rfl
@[simp] theorem State.setPc_y (s : State) (v : Word) : (s.setPc v).y = s.y := rfl
@[simp] theorem State.setPc_cc (s : State) (v : Word) : (s.setPc v).cc = s.cc := rfl
@[simp] theorem State.setPc_mem (s : State) (v : Word) : (s.setPc v).mem = s.mem := rfl

@[simp] theorem State.setCc_pc (s : State) (v : Nat) : (s.setCc v).pc = s.pc := rfl
@[simp] theorem State.setCc_sp (s : State) (v : Nat) : (s.setCc v).sp = s.sp := rfl
@[simp] theorem State.setCc_sr (s : State) (v : Nat) : (s.setCc v).sr = s.sr := rfl
@[simp] theorem State.setCc_a (s : State) (v : Nat) : (s.setCc v).a = s.a := rfl
@[simp] theorem State.setCc_x (s : State) (v : Nat) : (s.setCc v).x = s.x := rfl
@[simp] theorem State.setCc_y (s : State) (v : Nat) : (s.setCc v).y = s.y := rfl
@[simp] theorem State.setCc_cc (s : State) (v : Nat) : (s.setCc v).cc = v := rfl
@[simp] theorem State.setCc_mem (s : State) (v : Nat) : (s.setCc v).mem = s.mem := rfl

@[simp] theorem State.writeByte_pc (s : State) (k : Word) (v : Byte) :
    (s.writeByte k v).pc = s.pc := rfl
@[simp] theorem State.writeByte_sp (s : State) (k : Word) (v : Byte) :
    (s.writeByte k v).sp = s.sp := rfl
@[simp] theorem State.writeByte_sr (s : State) (k : Word) (v : Byte) :
    (s.writeByte k v).sr = s.sr := rfl
@[simp] theorem State.writeByte_a (s : State) (k : Word) (v : Byte) :
    (s.writeByte k v).a = s.a := rfl
@[simp] theorem State.writeByte_x (s : State) (k : Word) (v : Byte) :
    (s.writeByte k v).x = s.x := rfl
@[simp] theorem State.writeByte_y (s : State) (k : Word) (v : Byte) :
    (s.writeByte k v).y = s.y := rfl
@[simp] theorem State.writeByte_cc (s : State) (k : Word) (v : Byte) :
    (s.writeByte k v).cc = s.cc := rfl
@[simp] theorem State.writeByte_mem (s : State) (k : Word) (v : Byte) :
    (s.writeByte k v).mem = Memory.write s.mem k v := rfl

@[simp] theorem State.setFlag_pc (s : State) (f : Flag) (on : Bool) : (s.setFlag f on).pc = s.pc := rfl
@[simp] theorem State.setFlag_sp (s : State) (f : Flag) (on : Bool) : (s.setFlag f on).sp = s.sp := rfl
@[simp] theorem State.setFlag_a (s : State) (f : Flag) (on : Bool) : (s.setFlag f on).a = s.a := rfl
@[simp] theorem State.setFlag_x (s : State) (f : Flag) (on : Bool) : (s.setFlag f on).x = s.x := rfl
@[simp] theorem State.setFlag_y (s : State) (f : Flag) (on : Bool) : (s.setFlag f on).y = s.y := rfl
@[simp] theorem State.setFlag_cc (s : State) (f : Flag) (on : Bool) : (s.setFlag f on).cc = s.cc := rfl
@[simp] theorem State.setFlag_mem (s : State) (f : Flag) (on : Bool) : (s.setFlag f on).mem = s.mem := rfl
@[simp] theorem State.setFlag_sr (s : State) (f : Flag) (on : Bool) :
    (s.setFlag f on).sr = f.put on s.readSr ||| 0x20#8 := rfl

@[simp] theorem State.setNZ_pc (s : State) (v : Byte) : (s.setNZ v).pc = s.pc := rfl
@[simp] theorem State.setNZ_sp (s : State) (v : Byte) : (s.setNZ v).sp = s.sp := rfl
@[simp] theorem State.setNZ_a (s : State) (v : Byte) : (s.setNZ v).a = s.a := rfl
@[simp] theorem State.setNZ_x (s : State) (v : Byte) : (s.setNZ v).x = s.x := rfl
@[simp] theorem State.setNZ_y (s : State) (v : Byte) : (s.setNZ v).y = s.y := rfl
@[simp] theorem State.setNZ_cc (s : State) (v : Byte) : (s.setNZ v).cc = s.cc := rfl
@[simp] theorem State.setNZ_mem (s : State) (v : Byte) : (s.setNZ v).mem = s.mem := rfl

@[simp] theorem State.push_pc (s : State) (v : Byte) : (s.push v).pc = s.pc := rfl
@[simp] theorem State.push_sp (s : State) (v : Byte) : (s.push v).sp = s.sp - 1 := rfl
@[simp] theorem State.push_sr (s : State) (v : Byte) : (s.push v).sr = s.sr := rfl
@[simp] theorem State.push_a (s : State) (v : Byte) : (s.push v).a = s.a := rfl
@[simp] theorem State.push_x (s : State) (v : Byte) : (s.push v).x = s.x := rfl
@[simp] theorem State.push_y (s : State) (v : Byte) : (s.push v).y = s.y := rfl
@[simp] theorem State.push_cc (s : State) (v : Byte) : (s.push v).cc = s.cc := rfl
@[simp] theorem State.push_mem (s : State) (v : Byte) : (s.push v).mem = Memory.write s.mem (stackAddr s.sp) v := rfl

@[simp] theorem State.pop_fst (s : State) : s.pop.1 = s.setSp (s.sp + 1) := rfl

@[simp] theorem State.pop_snd (s : State) : s.pop.2 = s.readByte (stackAddr (s.sp + 1)) := rfl

@[simp] theorem State.popWord_fst (s : State) : s.popWord.1 = (s.setSp (s.sp + 1)).setSp (s.sp + 1 + 1) :=
  rfl

@[simp] theorem State.popWord_snd (s : State) :
    s.popWord.2 =
      Word.ofBytes (s.readByte (stackAddr (s.sp + 1 + 1))) (s.readByte (stackAddr (s.sp + 1))) :=
  rfl

/-- A read of memory depends on memory only. -/
@[simp] theorem State.readByte_eq (s : State) (a : Word) : s.readByte a = Memory.read s.mem a := rfl

end Sys2Proof.Machine
end

