-- ==== Sys2Proof/Laws/Flags.lean ====
section
/-! SUPPORT. What reads and writes of SR and its flags do, bit by bit and as a byte. -/

namespace Sys2Proof.Machine

theorem Flag.mask_getLsbD (f : Flag) (i : Nat) : f.mask.getLsbD i = decide (i = f.index.val) := by
  by_cases hi : i < 8
  · interval_cases i <;> cases f <;> decide
  · rw [BitVec.getLsbD_of_ge _ _ (by omega)]
    have := f.index.isLt
    simp
    omega

theorem Flag.put_getLsbD (f : Flag) (on : Bool) (v : Byte) (i : Nat) :
    (f.put on v).getLsbD i = if i = f.index.val then on else v.getLsbD i := by
  have hf := f.index.isLt
  by_cases hi : i < 8
  · have hm := Flag.mask_getLsbD f i
    by_cases h : i = f.index.val <;> cases on <;> simp only [h, decide_true, decide_false] at hm <;>
      simp [Flag.put, h, hm, BitVec.getLsbD_and, BitVec.getLsbD_or, BitVec.getLsbD_not, hi,
        -BitVec.getLsbD_eq_getElem]
  · have : i ≠ f.index.val := by omega
    simp [this, BitVec.getLsbD_of_ge _ _ (show 8 ≤ i by omega)]

/-- A read of SR is the stored byte but for bit 5, which reads 1. -/
theorem State.readSr_getLsbD (s : State) (i : Nat) :
    s.readSr.getLsbD i = if i = 5 then true else s.sr.getLsbD i := by
  by_cases hi : i < 8
  · interval_cases i <;> simp [State.readSr]
  · have : i ≠ 5 := by omega
    simp [this, BitVec.getLsbD_of_ge _ _ (show 8 ≤ i by omega)]

/-- SR as stored after a write reads as the byte written, bit 5 at 1. -/
theorem State.setSr_getLsbD (s : State) (v : Byte) (i : Nat) :
    (s.setSr v).sr.getLsbD i = if i = 5 then true else v.getLsbD i := by
  by_cases hi : i < 8
  · interval_cases i <;> simp
  · have : i ≠ 5 := by omega
    simp [this, BitVec.getLsbD_of_ge _ _ (show 8 ≤ i by omega)]

/-- Every bit of SR as stored after a flag write. -/
theorem State.setFlag_getLsbD (s : State) (f : Flag) (on : Bool) (i : Nat) :
    (s.setFlag f on).sr.getLsbD i =
      if i = 5 then true else if i = f.index.val then on else s.sr.getLsbD i := by
  rw [State.setFlag, State.setSr_getLsbD, Flag.put_getLsbD, State.readSr_getLsbD]
  split <;> simp_all

/-- A read of a flag after the flag is written. -/
theorem State.flag_setFlag (s : State) (f g : Flag) (on : Bool) :
    (s.setFlag f on).flag g =
      if g = .unused then true else if g = f then on else s.flag g := by
  simp only [State.flag, State.readSr_getLsbD, State.setFlag_getLsbD]
  cases f <;> cases g <;> simp [Flag.index]

/-- Two bytes with equal bits are equal. -/
theorem Byte.ext_of_getLsbD {v w : Byte} (h : ∀ i < 8, v.getLsbD i = w.getLsbD i) : v = w :=
  BitVec.eq_of_getLsbD_eq h

/-- A flag write forces the stored bit 5 to 1. -/
theorem State.setFlag_bit5 (s : State) (f : Flag) (on : Bool) :
    (s.setFlag f on).sr.getLsbD 5 = true := by simp

/-- `SetNZ` on the stored byte: bit 7 and bit 1 from the value, bit 5 at 1, the rest unchanged. -/
theorem State.setNZ_sr (s : State) (v : Byte) :
    (s.setNZ v).sr =
      (s.sr &&& 0x7D#8) ||| (v &&& 0x80#8) ||| (if v = 0#8 then 0x02#8 else 0x00#8) ||| 0x20#8 := by
  apply Byte.ext_of_getLsbD
  intro i hi
  rw [State.setNZ, State.setFlag_getLsbD, State.setFlag_getLsbD]
  by_cases hv : v = 0#8
  · subst hv; interval_cases i <;> simp [Flag.index]
  · interval_cases i <;> simp [Flag.index, hv]

theorem State.setNZ_bit5 (s : State) (v : Byte) : (s.setNZ v).sr.getLsbD 5 = true :=
  State.setFlag_bit5 _ _ _

/-- A read of a flag after `SetNZ`. -/
theorem State.flag_setNZ (s : State) (v : Byte) (g : Flag) :
    (s.setNZ v).flag g =
      if g = .zero then v == 0#8 else if g = .negative then v.getLsbD 7 else s.flag g := by
  rw [State.setNZ, State.flag_setFlag, State.flag_setFlag]
  cases g <;> simp [State.flag, State.readSr_getLsbD, Flag.index]

/-- A read of a flag after a write of another cell. -/
theorem State.flag_congr {s t : State} (h : s.sr = t.sr) (f : Flag) : s.flag f = t.flag f := by
  simp [State.flag, State.readSr, h]

@[simp] theorem State.flag_setA (s : State) (v : Byte) (f : Flag) : (s.setA v).flag f = s.flag f := rfl
@[simp] theorem State.flag_setX (s : State) (v : Byte) (f : Flag) : (s.setX v).flag f = s.flag f := rfl
@[simp] theorem State.flag_setY (s : State) (v : Byte) (f : Flag) : (s.setY v).flag f = s.flag f := rfl
@[simp] theorem State.flag_setSp (s : State) (v : Byte) (f : Flag) : (s.setSp v).flag f = s.flag f := rfl
@[simp] theorem State.flag_setPc (s : State) (v : Word) (f : Flag) : (s.setPc v).flag f = s.flag f := rfl
@[simp] theorem State.flag_setCc (s : State) (v : Nat) (f : Flag) : (s.setCc v).flag f = s.flag f := rfl
@[simp] theorem State.flag_writeByte (s : State) (k : Word) (v : Byte) (f : Flag) :
    (s.writeByte k v).flag f = s.flag f := rfl
@[simp] theorem State.flag_push (s : State) (v : Byte) (f : Flag) : (s.push v).flag f = s.flag f := rfl

theorem State.flag_setSr (s : State) (v : Byte) (f : Flag) :
    (s.setSr v).flag f = if f = .unused then true else v.getLsbD f.index.val := by
  simp only [State.flag, State.readSr_getLsbD, State.setSr_getLsbD]
  cases f <;> simp [Flag.index]

end Sys2Proof.Machine
end

