-- ==== Sys2Proof/Laws/Memory.lean ====
section
/-! SUPPORT. What the memory operations do: read after write, the canonical form they keep, and that
two memories in that form with equal bytes are equal data. -/

namespace Sys2Proof.Machine

theorem Memory.get_put_ne (m : Memory) (k j : Nat) (v : Byte) (h : j ≠ k) :
    Memory.get (Memory.put m k v) j = Memory.get m j := by
  induction m with
  | nil =>
    simp only [Memory.put]
    split
    · rfl
    · simp [Memory.get, Ne.symm h]
  | cons c m ih =>
    obtain ⟨i, b⟩ := c
    simp only [Memory.put]
    split
    · split
      · rfl
      · simp [Memory.get, Ne.symm h]
    · split
      · rename_i hk
        subst hk
        split <;> simp [Memory.get, Ne.symm h]
      · simp [Memory.get, ih]

/-- Above every listed address, memory reads as unlisted. -/
theorem Memory.get_of_forall_lt (m : Memory) (k : Nat) (h : ∀ c ∈ m, k < c.1) :
    Memory.get m k = Memory.unlisted := by
  induction m with
  | nil => rfl
  | cons c m ih =>
    have hc := h c List.mem_cons_self
    rw [Memory.get, if_neg (by omega)]
    exact ih fun d hd => h d (List.mem_cons_of_mem _ hd)

theorem Memory.wf_tail {c : Host.Cell} {m : Memory} (h : Memory.wf (c :: m)) : Memory.wf m :=
  ⟨(List.pairwise_cons.mp h.1).2, fun d hd => h.2 d (List.mem_cons_of_mem _ hd)⟩

theorem Memory.wf_head {c : Host.Cell} {m : Memory} (h : Memory.wf (c :: m)) :
    ∀ d ∈ m, c.1 < d.1 := (List.pairwise_cons.mp h.1).1

theorem Memory.get_put_same (m : Memory) (k : Nat) (v : Byte) (h : Memory.wf m) :
    Memory.get (Memory.put m k v) k = v := by
  induction m with
  | nil =>
    simp only [Memory.put]
    split
    · rename_i hv
      simp [Memory.get, hv]
    · simp [Memory.get]
  | cons c m ih =>
    obtain ⟨j, b⟩ := c
    have hh := Memory.wf_head h
    simp only [Memory.put]
    split
    · rename_i hk
      split
      · rename_i hv
        rw [hv]
        refine Memory.get_of_forall_lt _ _ fun d hd => ?_
        rcases List.mem_cons.mp hd with rfl | hd
        · exact hk
        · exact Nat.lt_trans hk (hh d hd)
      · simp [Memory.get]
    · split
      · rename_i hk
        subst hk
        split
        · rename_i hv
          rw [hv]
          exact Memory.get_of_forall_lt _ _ hh
        · simp [Memory.get]
      · rename_i hk
        rw [Memory.get, if_neg (by omega)]
        exact ih (Memory.wf_tail h)

/-- Every listed address after a write was listed before or is the one written. -/
theorem Memory.mem_put {m : Memory} {k : Nat} {v : Byte} {c : Host.Cell}
    (h : c ∈ Memory.put m k v) : c ∈ m ∨ (c = (k, v) ∧ v ≠ Memory.unlisted) := by
  induction m with
  | nil =>
    simp only [Memory.put] at h
    split at h
    · cases h
    · exact .inr ⟨List.mem_singleton.mp h, ‹_›⟩
  | cons d m ih =>
    obtain ⟨j, b⟩ := d
    simp only [Memory.put] at h
    split at h
    · split at h
      · exact .inl h
      · rcases List.mem_cons.mp h with rfl | h
        · exact .inr ⟨rfl, ‹_›⟩
        · exact .inl h
    · split at h
      · split at h
        · exact .inl (List.mem_cons_of_mem _ h)
        · rcases List.mem_cons.mp h with rfl | h
          · exact .inr ⟨rfl, ‹_›⟩
          · exact .inl (List.mem_cons_of_mem _ h)
      · rcases List.mem_cons.mp h with rfl | h
        · exact .inl List.mem_cons_self
        · rcases ih h with h | h
          · exact .inl (List.mem_cons_of_mem _ h)
          · exact .inr h

/-- A write of a byte keeps the canonical form. -/
theorem Memory.wf_put {m : Memory} (k : Nat) (v : Byte) (h : Memory.wf m) (hk : k < Memory.size) :
    Memory.wf (Memory.put m k v) := by
  refine ⟨?_, fun c hc => ?_⟩
  · induction m with
    | nil =>
      simp only [Memory.put]
      split
      · exact List.Pairwise.nil
      · exact List.pairwise_singleton _ _
    | cons d m ih =>
      obtain ⟨j, b⟩ := d
      have hh := Memory.wf_head h
      have ht := Memory.wf_tail h
      simp only [Memory.put]
      split
      · rename_i hlt
        split
        · exact h.1
        · refine List.pairwise_cons.mpr ⟨fun d hd => ?_, h.1⟩
          rcases List.mem_cons.mp hd with rfl | hd
          · exact hlt
          · exact Nat.lt_trans hlt (hh d hd)
      · split
        · rename_i heq
          subst heq
          split
          · exact ht.1
          · exact List.pairwise_cons.mpr ⟨hh, ht.1⟩
        · refine List.pairwise_cons.mpr ⟨fun d hd => ?_, ih ht⟩
          rcases Memory.mem_put hd with hd | ⟨rfl, -⟩
          · exact hh d hd
          · show j < k
            omega
  · rcases Memory.mem_put hc with hc | ⟨rfl, hv⟩
    · exact h.2 c hc
    · exact ⟨hk, hv⟩

/-- Two memories in canonical form with equal bytes are equal. -/
theorem Memory.ext_of_get {m n : Memory} (hm : Memory.wf m) (hn : Memory.wf n)
    (h : ∀ k, Memory.get m k = Memory.get n k) : m = n := by
  induction m generalizing n with
  | nil =>
    cases n with
    | nil => rfl
    | cons c n =>
      have : Memory.unlisted = c.2 := by simpa [Memory.get] using h c.1
      exact absurd this.symm (hn.2 c List.mem_cons_self).2
  | cons c m ih =>
    cases n with
    | nil =>
      have : c.2 = Memory.unlisted := by simpa [Memory.get] using h c.1
      exact absurd this (hm.2 c List.mem_cons_self).2
    | cons d n =>
      obtain ⟨j, b⟩ := c
      obtain ⟨k, e⟩ := d
      have hmh := Memory.wf_head hm
      have hnh := Memory.wf_head hn
      have hjk : j = k := by
        rcases Nat.lt_trichotomy j k with hlt | heq | hlt
        · have hj := h j
          rw [Memory.get, if_pos rfl, Memory.get_of_forall_lt] at hj
          · exact absurd hj (hm.2 _ List.mem_cons_self).2
          · intro c hc
            rcases List.mem_cons.mp hc with rfl | hc
            · exact hlt
            · exact Nat.lt_trans hlt (hnh c hc)
        · exact heq
        · have hj := h k
          rw [Memory.get_of_forall_lt, Memory.get, if_pos rfl] at hj
          · exact absurd hj.symm (hn.2 _ List.mem_cons_self).2
          · intro c hc
            rcases List.mem_cons.mp hc with rfl | hc
            · exact hlt
            · exact Nat.lt_trans hlt (hmh c hc)
      subst hjk
      have hbe : b = e := by
        have hj := h j
        simpa [Memory.get] using hj
      subst hbe
      congr 1
      refine ih (Memory.wf_tail hm) (Memory.wf_tail hn) fun i => ?_
      by_cases hi : j = i
      · subst hi
        rw [Memory.get_of_forall_lt _ _ hmh, Memory.get_of_forall_lt _ _ hnh]
      · have hj := h i
        simpa [Memory.get, hi] using hj

theorem Memory.read_write_same (m : Memory) (a : Word) (v : Byte) (h : Memory.wf m) :
    Memory.read (Memory.write m a v) a = v := Memory.get_put_same m _ v h

theorem Memory.read_write_ne (m : Memory) (a b : Word) (v : Byte) (h : b ≠ a) :
    Memory.read (Memory.write m a v) b = Memory.read m b :=
  Memory.get_put_ne m _ _ v fun e => h (BitVec.eq_of_toNat_eq e)

theorem Memory.wf_write {m : Memory} (a : Word) (v : Byte) (h : Memory.wf m) :
    Memory.wf (Memory.write m a v) := Memory.wf_put _ _ h a.isLt

theorem Memory.wf_writeWord {m : Memory} (a v : Word) (h : Memory.wf m) :
    Memory.wf (Memory.writeWord m a v) := Memory.wf_write _ _ (Memory.wf_write _ _ h)

/-- A read after a write, same place or not. -/
theorem Memory.read_write (m : Memory) (a b : Word) (v : Byte) (h : Memory.wf m) :
    Memory.read (Memory.write m a v) b = if b = a then v else Memory.read m b := by
  split
  · subst b
    exact Memory.read_write_same m a v h
  · exact Memory.read_write_ne m a b v ‹_›

/-- Beyond the last cell nothing is listed. -/
theorem Memory.get_of_size_le {m : Memory} (h : Memory.wf m) {k : Nat} (hk : Memory.size ≤ k) :
    Memory.get m k = Memory.unlisted := by
  induction m with
  | nil => rfl
  | cons c m ih =>
    have := (h.2 c List.mem_cons_self).1
    rw [Memory.get, if_neg (by omega)]
    exact ih (Memory.wf_tail h)

/-- The address of the high byte of a page-wrapped word, as a number. -/
theorem pageWrapNext_toNat (a : Word) :
    (pageWrapNext a).toNat = a.toNat / 256 * 256 + (a.toNat + 1) % 256 := by
  have h := a.isLt
  have h1 : BitVec.toNat (1 : Word) = 1 := rfl
  have e : pageWrapNext a = Word.ofBytes a.hi (a + 1).lo := by
    apply BitVec.eq_of_getLsbD_eq
    intro i hi
    simp only [pageWrapNext, Word.ofBytes, Word.hi, Word.lo, BitVec.getLsbD_or, BitVec.getLsbD_and,
      BitVec.getLsbD_append, BitVec.getLsbD_extractLsb']
    interval_cases i <;> simp
  rw [e, Word.ofBytes_toNat, Word.hi_toNat, Word.lo_toNat, Word.add_toNat, h1]
  omega

theorem Memory.wf_nil : Memory.wf [] := ⟨List.Pairwise.nil, by simp⟩

theorem Memory.wf_reset : Memory.wf State.reset.mem := ⟨List.Pairwise.nil, by simp [State.reset]⟩

end Sys2Proof.Machine
end

