-- ==== Sys2Proof/Laws/Ops.lean ====
section
/-! SUPPORT. What the stack primitives, the trap and its return do, and that every shared operation
keeps the invariant of the machine. -/

namespace Sys2Proof.Machine

theorem stackAddr_toNat (sp : Byte) : (stackAddr sp).toNat = 256 + sp.toNat := by
  have := sp.isLt
  simp only [stackAddr, BitVec.toNat_add, Byte.zext_toNat, BitVec.toNat_ofNat]
  omega

theorem stackAddr_inj {p q : Byte} : stackAddr p = stackAddr q ↔ p = q := by
  refine ⟨fun h => BitVec.eq_of_toNat_eq ?_, fun h => h ▸ rfl⟩
  have := congrArg BitVec.toNat h
  rw [stackAddr_toNat, stackAddr_toNat] at this
  omega

theorem Byte.sub_one_ne (p : Byte) : p - 1 ≠ p := by bv_omega

theorem Byte.sub_two_ne (p : Byte) : p - 1 - 1 ≠ p := by bv_omega

@[simp] theorem Byte.sub_add_one (p : Byte) : p - 1 + 1 = p := by bv_omega

/-- `Pop` after `Push` gives the byte back and restores SP. -/
theorem State.pop_push (s : State) (v : Byte) (h : Memory.wf s.mem) :
    (s.push v).pop.2 = v ∧ (s.push v).pop.1.sp = s.sp := by
  simp [Memory.read_write_same _ _ _ h]

/-- `PushWord` writes the high byte at SP and the low byte below it, and lowers SP by 2. -/
theorem State.pushWord_eq (s : State) (w : Word) :
    s.pushWord w =
      { s with sp := s.sp - 1 - 1,
               mem := Memory.write (Memory.write s.mem (stackAddr s.sp) w.hi)
                 (stackAddr (s.sp - 1)) w.lo } := rfl

@[simp] theorem State.pushWord_readSr (s : State) (w : Word) : (s.pushWord w).readSr = s.readSr := rfl

/-- The trap in closed form: three bytes on the stack, B and I set, PC from the vector. -/
theorem State.takeTrap_eq (s : State) :
    s.takeTrap =
      let pushed := s.readSr ||| 0x10#8
      let mem := Memory.write
        (Memory.write (Memory.write s.mem (stackAddr s.sp) (s.pc + 1).hi)
          (stackAddr (s.sp - 1)) (s.pc + 1).lo)
        (stackAddr (s.sp - 1 - 1)) pushed
      { s with sp := s.sp - 1 - 1 - 1, sr := pushed ||| 0x04#8, mem := mem,
               pc := Memory.readWord mem brkVector } := by
  have h1 : ((s.pushWord (s.pc + 1)).setFlag .brk true).readSr = s.readSr ||| 0x10#8 := by
    apply Byte.ext_of_getLsbD
    intro i hi
    rw [State.readSr_getLsbD, State.setFlag_getLsbD]
    interval_cases i <;> simp [Flag.index, State.readSr, State.pushWord]
  have h2 : (((s.pushWord (s.pc + 1)).setFlag .brk true).push (s.readSr ||| 0x10#8)
      |>.setFlag .interruptDisable true).sr = (s.readSr ||| 0x10#8) ||| 0x04#8 := by
    apply Byte.ext_of_getLsbD
    intro i hi
    rw [State.setFlag_getLsbD, State.push_sr, State.setFlag_getLsbD]
    interval_cases i <;> simp [Flag.index, State.readSr, State.pushWord]
  simp only [State.takeTrap, h1]
  simp only [State.setPc, h2]
  rfl

/-- The return in closed form: SR from the popped byte but for bits 4 and 5, PC from the two bytes
above it, SP raised by 3. -/
theorem State.returnFromTrap_eq (s : State) :
    s.returnFromTrap =
      { s with
        sp := s.sp + 1 + 1 + 1,
        sr := (s.readByte (stackAddr (s.sp + 1)) &&& 0xCF#8) ||| (s.readSr &&& 0x10#8) ||| 0x20#8,
        pc := Word.ofBytes (s.readByte (stackAddr (s.sp + 1 + 1 + 1)))
          (s.readByte (stackAddr (s.sp + 1 + 1))) } := by
  have h : ∀ v : Byte, v ||| 0x20#8 ||| 0x20#8 = v ||| 0x20#8 := by
    intro v
    rw [BitVec.or_assoc, BitVec.or_self]
  simp only [State.returnFromTrap, State.pop_fst, State.pop_snd, State.popWord_fst,
    State.popWord_snd, State.setSr, h]
  rfl

/-- A write of SR gives the stored bit 5 the value 1. -/
theorem State.setSr_bit5 (s : State) (v : Byte) : (s.setSr v).sr.getLsbD 5 = true := by
  rw [State.setSr_getLsbD]
  rfl

theorem State.Inv.setFlag {s : State} (h : s.Inv) (f : Flag) (on : Bool) : (s.setFlag f on).Inv :=
  ⟨h.1, State.setFlag_bit5 s f on⟩

theorem State.Inv.setNZ {s : State} (h : s.Inv) (v : Byte) : (s.setNZ v).Inv :=
  ⟨h.1, State.setNZ_bit5 s v⟩

theorem State.Inv.setSr {s : State} (h : s.Inv) (v : Byte) : (s.setSr v).Inv :=
  ⟨h.1, State.setSr_bit5 s v⟩

theorem State.Inv.setA {s : State} (h : s.Inv) (v : Byte) : (s.setA v).Inv := h
theorem State.Inv.setX {s : State} (h : s.Inv) (v : Byte) : (s.setX v).Inv := h
theorem State.Inv.setY {s : State} (h : s.Inv) (v : Byte) : (s.setY v).Inv := h
theorem State.Inv.setSp {s : State} (h : s.Inv) (v : Byte) : (s.setSp v).Inv := h
theorem State.Inv.setPc {s : State} (h : s.Inv) (v : Word) : (s.setPc v).Inv := h
theorem State.Inv.setCc {s : State} (h : s.Inv) (v : Nat) : (s.setCc v).Inv := h

theorem State.Inv.writeByte {s : State} (h : s.Inv) (a : Word) (v : Byte) : (s.writeByte a v).Inv :=
  ⟨Memory.wf_write a v h.1, h.2⟩

theorem State.Inv.push {s : State} (h : s.Inv) (v : Byte) : (s.push v).Inv :=
  (h.writeByte _ _).setSp _

theorem State.Inv.pushWord {s : State} (h : s.Inv) (w : Word) : (s.pushWord w).Inv :=
  (h.push _).push _

theorem State.Inv.popWord {s : State} (h : s.Inv) : s.popWord.1.Inv := h

theorem State.Inv.takeTrap {s : State} (h : s.Inv) : s.takeTrap.Inv :=
  ((((h.pushWord _).setFlag _ _).push _).setFlag _ _).setPc _

theorem State.Inv.returnFromTrap {s : State} (h : s.Inv) : s.returnFromTrap.Inv :=
  ((State.Inv.setSr (s := s.pop.1) h _).popWord).setPc _

end Sys2Proof.Machine
end

