-- ==== Sys2Proof/Laws/Operands.lean ====
section
/-! SUPPORT. What the addressing-mode calculator and the driver around a body do. -/

namespace Sys2Proof.Machine

/-- Only `relative` changes PC (spec/40_driver_and_modes.md rule R128). -/
theorem resolve_pc (f : Form) (s : State) :
    (resolve f s).pc = if f.mode = .relative then s.pc + 1 else s.pc := by
  cases f <;> rfl

/-- A page cross is a change of the high byte. -/
theorem cross_eq (target reference : Word) :
    cross target reference = decide (target.toNat / 256 ≠ reference.toNat / 256) := by
  have h : target &&& 0xFF00#16 = reference &&& 0xFF00#16 ↔ target.hi = reference.hi := by
    constructor <;> intro h <;> apply BitVec.eq_of_getLsbD_eq <;> intro i hi
    · have := congrArg (fun v => BitVec.getLsbD v (i + 8)) h
      simp only [BitVec.getLsbD_and] at this
      simp only [Word.hi, BitVec.getLsbD_extractLsb']
      interval_cases i <;> simpa using this
    · have := congrArg (fun v => BitVec.getLsbD v (i - 8)) h
      simp only [Word.hi, BitVec.getLsbD_extractLsb'] at this
      simp only [BitVec.getLsbD_and]
      interval_cases i <;> simp_all
  rw [← BitVec.toNat_inj (x := target.hi), Word.hi_toNat, Word.hi_toNat] at h
  rw [cross, Bool.eq_iff_iff]
  simp [h]

theorem indexed_toNat (base : Word) (index : Byte) :
    (indexed base index).toNat = (base.toNat + index.toNat) % 65536 := by
  rw [indexed, Word.add_toNat, Byte.zext_toNat]

/-- A page cross costs at most one cycle. -/
theorem crossPenalty_le (target reference : Word) : crossPenalty target reference ≤ 1 := by
  unfold crossPenalty; split <;> omega

/-- At most two penalty cycles, and at most one outside `relative`. -/
theorem resolve_pen_le (f : Form) (s : State) :
    (resolve f s).pen ≤ if f.mode = .relative then 2 else 1 := by
  cases f with
  | absoluteX | absoluteY | indirectY => exact crossPenalty_le _ _
  | relative => exact Nat.add_le_add_left (crossPenalty_le _ _) 1
  | _ => exact Nat.zero_le _

/-- `Resolve` reads PC, X, Y and memory only. -/
theorem resolve_congr (f : Form) {s t : State} (hp : s.pc = t.pc) (hx : s.x = t.x) (hy : s.y = t.y)
    (hm : s.mem = t.mem) : resolve f s = resolve f t := by
  cases f <;> simp [resolve, State.designates, indirectXPointer, indirectYBase, State.readWordWrap,
    hp, hx, hy, hm]

@[simp] theorem advancePc_cc (i : Instr) (s : State) : (advancePc i s).cc = s.cc := by
  unfold advancePc; split <;> rfl

theorem State.Inv.advancePc {s : State} (h : s.Inv) (i : Instr) : (advancePc i s).Inv := by
  unfold Machine.advancePc; split <;> exact h

theorem State.Inv.countCycles {s : State} (h : s.Inv) (i : Instr) (pen : Nat) :
    (countCycles i pen s).Inv := h

theorem State.Inv.writeOp {s : State} (h : s.Inv) (op : Op) (v : Byte) : (writeOp op v s).Inv := by
  cases op with
  | none => exact h
  | acc => exact h
  | imm => exact h
  | addr a => exact h.writeByte a v

/-- What steps 5 and 6 leave: PC advanced unless the mnemonic controls it, CC raised by the base
cycles and the penalty, everything else as it was. -/
theorem retire_eq (i : Instr) (pen : Nat) (s : State) :
    retire i pen s = .next { s with
      pc := if i.row.mnemonic.pcControlling then s.pc else s.pc + BitVec.ofNat 16 (i.row.length - 1),
      cc := s.cc + i.row.base + pen } := by
  unfold retire countCycles advancePc
  split <;> rfl

/-- The driver around a body, in closed form: the body runs on the operand resolved before it, then
PC advances (unless the mnemonic controls it) and CC is raised by the base cycles and the penalty. -/
theorem runBody_eq (i : Instr) (body : Op → State → State) (s : State) :
    runBody i body s =
      let b := body (resolve i.form s).op s
      .next { b with
        pc := if i.row.mnemonic.pcControlling then b.pc else b.pc + BitVec.ofNat 16 (i.row.length - 1),
        cc := b.cc + i.row.base + (resolve i.form s).pen } := retire_eq _ _ _

/-- A value-consuming mnemonic in closed form. -/
theorem runValue_eq (i : Instr) (body : Byte → State → State) (s : State)
    (hc : i.row.mnemonic.pcControlling = false) :
    runValue i body s =
      let r := resolve i.form s
      let b := body (readOp r.op s) s
      .next { b with
        pc := b.pc + BitVec.ofNat 16 (i.row.length - 1), cc := b.cc + i.row.base + r.pen } := by
  simp only [runValue, runBody_eq, hc, Bool.false_eq_true, if_false]

/-- A store in closed form. -/
theorem runStore_eq (i : Instr) (value : State → Byte) (s : State)
    (hc : i.row.mnemonic.pcControlling = false) :
    runStore i value s =
      let r := resolve i.form s
      let b := writeOp r.op (value s) s
      .next { b with
        pc := b.pc + BitVec.ofNat 16 (i.row.length - 1), cc := b.cc + i.row.base + r.pen } := by
  simp only [runStore, runBody_eq, hc, Bool.false_eq_true, if_false]

/-- A modify mnemonic in closed form: one read, one write of the same operand. -/
theorem runModify_eq (i : Instr) (result : Byte → State → Byte)
    (flags : Byte → Byte → State → State) (s : State)
    (hc : i.row.mnemonic.pcControlling = false) :
    runModify i result flags s =
      let r := resolve i.form s
      let v := readOp r.op s
      let b := flags v (result v s) (writeOp r.op (result v s) s)
      .next { b with
        pc := b.pc + BitVec.ofNat 16 (i.row.length - 1), cc := b.cc + i.row.base + r.pen } := by
  simp only [runModify, runBody_eq, hc, Bool.false_eq_true, if_false]

/-- A one-byte instruction in closed form: PC is where the body leaves it. -/
theorem runImplied_eq (i : Instr) (body : State → State) (s : State) (hf : i.form = .implied)
    (hl : i.row.length = 1) :
    runImplied i body s = .next { body s with cc := (body s).cc + i.row.base } := by
  have h0 : (body s).pc + BitVec.ofNat 16 (1 - 1) = (body s).pc := BitVec.add_zero _
  simp only [runImplied, runBody_eq, hl, h0, ite_self, hf]
  rfl

/-- A jump in closed form: PC is where the body leaves it. -/
theorem runAddress_eq (i : Instr) (body : Word → State → State) (s : State) (a : Word)
    (ha : (resolve i.form s).op = .addr a) (hc : i.row.mnemonic.pcControlling = true) :
    runAddress i body s =
      .next { body a s with cc := (body a s).cc + i.row.base + (resolve i.form s).pen } := by
  simp only [runAddress, runBody_eq, ha, hc, if_true]

/-- Retiring never stops and keeps the invariant. -/
theorem retire_keeps (i : Instr) (pen : Nat) {s : State} (h : s.Inv) :
    ∃ t, retire i pen s = .next t ∧ t.Inv := ⟨_, rfl, (h.advancePc i).countCycles i pen⟩

/-- A body that keeps the invariant gives an instruction that keeps it. -/
theorem runBody_keeps (i : Instr) (body : Op → State → State)
    (hb : ∀ op t, t.Inv → (body op t).Inv) {s : State} (h : s.Inv) :
    ∃ t, runBody i body s = .next t ∧ t.Inv := retire_keeps i _ (hb _ _ h)

theorem runValue_keeps (i : Instr) (body : Byte → State → State)
    (hb : ∀ v t, t.Inv → (body v t).Inv) {s : State} (h : s.Inv) :
    ∃ t, runValue i body s = .next t ∧ t.Inv := runBody_keeps i _ (fun _ t ht => hb _ t ht) h

theorem runStore_keeps (i : Instr) (value : State → Byte) {s : State} (h : s.Inv) :
    ∃ t, runStore i value s = .next t ∧ t.Inv :=
  runBody_keeps i _ (fun op t ht => ht.writeOp op (value t)) h

theorem runModify_keeps (i : Instr) (result : Byte → State → Byte)
    (flags : Byte → Byte → State → State) (hf : ∀ v r t, t.Inv → (flags v r t).Inv) {s : State}
    (h : s.Inv) : ∃ t, runModify i result flags s = .next t ∧ t.Inv :=
  runBody_keeps i _ (fun op _ ht => hf _ _ _ (ht.writeOp op _)) h

theorem runImplied_keeps (i : Instr) (body : State → State) (hb : ∀ t, t.Inv → (body t).Inv)
    {s : State} (h : s.Inv) : ∃ t, runImplied i body s = .next t ∧ t.Inv :=
  runBody_keeps i _ (fun _ t ht => hb t ht) h

theorem runAddress_keeps (i : Instr) (body : Word → State → State)
    (hb : ∀ a t, t.Inv → (body a t).Inv) {s : State} (h : s.Inv) :
    ∃ t, runAddress i body s = .next t ∧ t.Inv := by
  refine runBody_keeps i _ (fun op t ht => ?_) h
  cases op <;> first | exact ht | exact hb _ t ht

/-- The branch body in closed form (spec/47_branch.md rule R200). -/
theorem runBranch_eq (i : Instr) (n : Byte) (hf : i.form = .relative n) (taken : State → Bool)
    (s : State) :
    runBranch i taken s =
      if taken s then
        retire i (1 + crossPenalty (relativeTarget n s.pc) (s.pc + 1))
          (s.setPc (relativeTarget n s.pc))
      else retire i 0 (s.setPc (s.pc + 1)) := by
  unfold runBranch
  rw [hf]
  rfl

theorem runBranch_keeps (i : Instr) (taken : State → Bool) {s : State} (h : s.Inv) :
    ∃ t, runBranch i taken s = .next t ∧ t.Inv := by
  unfold runBranch
  split
  · dsimp only
    split <;> exact retire_keeps i _ h
  · exact retire_keeps i _ h

end Sys2Proof.Machine
end

