-- ==== Sys2Proof/Laws/Exec.lean ====
section
/-! SUPPORT. The two shapes a meaning has: a body between the resolution of its mode and the rest of
the driver, or the common branch body. -/

namespace Sys2Proof.Machine

/-- A state change leaves CC to the driver, does not depend on it, and keeps the invariant. -/
def Keeps (f : State → State) : Prop :=
  ∀ t, (f t).cc = t.cc ∧ (∀ c, f { t with cc := c } = { f t with cc := c }) ∧ (t.Inv → (f t).Inv)

theorem readOp_cc (op : Op) (t : State) (c : Nat) : readOp op { t with cc := c } = readOp op t := by
  cases op <;> rfl

theorem writeOp_keeps (op : Op) (v : Byte) : Keeps (writeOp op v) := by
  intro t
  exact ⟨by cases op <;> rfl, fun c => by cases op <;> rfl, fun h => h.writeOp op v⟩

/-- The shape of a meaning: a body around which the driver runs, or the common branch body. -/
def Shape (i : Instr) : Prop :=
  (i.row.mode ≠ .relative ∧ ∃ body, (∀ op, Keeps (body op)) ∧ ∀ s, exec i s = runBody i body s) ∨
    ∃ n taken, i.form = .relative n ∧ i.row.mode = .relative ∧
      i.row.mnemonic.pcControlling = true ∧
      (∀ s c, taken { s with cc := c } = taken s) ∧ ∀ s, exec i s = runBranch i taken s

theorem Shape.value {i : Instr} {body : Byte → State → State} (h : ∀ v, Keeps (body v))
    (hx : ∀ s, exec i s = runValue i body s) (hm : i.row.mode ≠ .relative) : Shape i :=
  .inl ⟨hm, _, fun op t => ⟨(h _ t).1, fun c => by rw [readOp_cc]; exact (h _ t).2.1 c,
    (h _ t).2.2⟩, hx⟩

theorem Shape.implied {i : Instr} {body : State → State} (h : Keeps body)
    (hx : ∀ s, exec i s = runImplied i body s) (hm : i.row.mode ≠ .relative) : Shape i :=
  .inl ⟨hm, _, fun _ t => h t, hx⟩

theorem Shape.store {i : Instr} (value : State → Byte)
    (hv : ∀ t c, value { t with cc := c } = value t)
    (hx : ∀ s, exec i s = runStore i value s) (hm : i.row.mode ≠ .relative) : Shape i :=
  .inl ⟨hm, _, fun op t => ⟨(writeOp_keeps op _ t).1,
    fun c => by rw [hv]; exact (writeOp_keeps op _ t).2.1 c, (writeOp_keeps op _ t).2.2⟩, hx⟩

theorem Shape.modify {i : Instr} {result : Byte → State → Byte}
    {flags : Byte → Byte → State → State}
    (hr : ∀ v t c, result v { t with cc := c } = result v t) (h : ∀ v r, Keeps (flags v r))
    (hx : ∀ s, exec i s = runModify i result flags s) (hm : i.row.mode ≠ .relative) : Shape i :=
  .inl ⟨hm, _, fun op t => ⟨(h _ _ _).1.trans (writeOp_keeps op _ t).1,
    fun c => by rw [readOp_cc, hr, (writeOp_keeps op _ t).2.1 c]; exact (h _ _ _).2.1 c,
    fun ht => (h _ _ _).2.2 ((writeOp_keeps op _ t).2.2 ht)⟩, hx⟩

theorem Shape.address {i : Instr} {body : Word → State → State} (h : ∀ a, Keeps (body a))
    (hx : ∀ s, exec i s = runAddress i body s) (hm : i.row.mode ≠ .relative) : Shape i := by
  refine .inl ⟨hm, _, fun op t => ?_, hx⟩
  cases op <;> first | exact ⟨rfl, fun _ => rfl, id⟩ | exact h _ t

theorem adcBody_keeps (v : Byte) : Keeps (adcBody v) := fun _ =>
  ⟨rfl, fun _ => rfl, fun h => State.Inv.setNZ (State.Inv.setA ((h.setFlag _ _).setFlag _ _) _) _⟩

theorem shiftFlags_keeps (out : Bool) (r : Byte) : Keeps (shiftFlags out r) := fun _ =>
  ⟨rfl, fun _ => rfl, fun h => (h.setFlag _ _).setNZ _⟩

theorem compare_keeps (reg v : Byte) : Keeps (compare reg v) := fun _ =>
  ⟨rfl, fun _ => rfl, fun h => (h.setFlag _ _).setNZ _⟩

theorem ldaBody_keeps (v : Byte) : Keeps (ldaBody v) :=
  fun _ => ⟨rfl, fun _ => rfl, fun h => (h.setA _).setNZ _⟩

theorem ldxBody_keeps (v : Byte) : Keeps (ldxBody v) :=
  fun _ => ⟨rfl, fun _ => rfl, fun h => (h.setX _).setNZ _⟩

theorem ldyBody_keeps (v : Byte) : Keeps (ldyBody v) :=
  fun _ => ⟨rfl, fun _ => rfl, fun h => (h.setY _).setNZ _⟩

theorem sbcBody_keeps (v : Byte) : Keeps (sbcBody v) :=
  adcBody_keeps _

theorem andBody_keeps (v : Byte) : Keeps (andBody v) :=
  fun _ => ⟨rfl, fun _ => rfl, fun h => (h.setA _).setNZ _⟩

theorem oraBody_keeps (v : Byte) : Keeps (oraBody v) :=
  fun _ => ⟨rfl, fun _ => rfl, fun h => (h.setA _).setNZ _⟩

theorem eorBody_keeps (v : Byte) : Keeps (eorBody v) :=
  fun _ => ⟨rfl, fun _ => rfl, fun h => (h.setA _).setNZ _⟩

theorem aslFlags_keeps (v r : Byte) : Keeps (aslFlags v r) :=
  shiftFlags_keeps _ r

theorem lsrFlags_keeps (v r : Byte) : Keeps (lsrFlags v r) :=
  shiftFlags_keeps _ r

theorem rolFlags_keeps (v r : Byte) : Keeps (rolFlags v r) :=
  shiftFlags_keeps _ r

theorem rorFlags_keeps (v r : Byte) : Keeps (rorFlags v r) :=
  shiftFlags_keeps _ r

theorem incFlags_keeps (v r : Byte) : Keeps (incFlags v r) :=
  fun _ => ⟨rfl, fun _ => rfl, fun h => h.setNZ _⟩

theorem decFlags_keeps (v r : Byte) : Keeps (decFlags v r) :=
  fun _ => ⟨rfl, fun _ => rfl, fun h => h.setNZ _⟩

theorem inxBody_keeps : Keeps inxBody :=
  fun _ => ⟨rfl, fun _ => rfl, fun h => (h.setX _).setNZ _⟩

theorem inyBody_keeps : Keeps inyBody :=
  fun _ => ⟨rfl, fun _ => rfl, fun h => (h.setY _).setNZ _⟩

theorem dexBody_keeps : Keeps dexBody :=
  fun _ => ⟨rfl, fun _ => rfl, fun h => (h.setX _).setNZ _⟩

theorem deyBody_keeps : Keeps deyBody :=
  fun _ => ⟨rfl, fun _ => rfl, fun h => (h.setY _).setNZ _⟩

theorem taxBody_keeps : Keeps taxBody :=
  fun _ => ⟨rfl, fun _ => rfl, fun h => (h.setX _).setNZ _⟩

theorem tayBody_keeps : Keeps tayBody :=
  fun _ => ⟨rfl, fun _ => rfl, fun h => (h.setY _).setNZ _⟩

theorem txaBody_keeps : Keeps txaBody :=
  fun _ => ⟨rfl, fun _ => rfl, fun h => (h.setA _).setNZ _⟩

theorem tyaBody_keeps : Keeps tyaBody :=
  fun _ => ⟨rfl, fun _ => rfl, fun h => (h.setA _).setNZ _⟩

theorem tsxBody_keeps : Keeps tsxBody :=
  fun _ => ⟨rfl, fun _ => rfl, fun h => (h.setX _).setNZ _⟩

theorem txsBody_keeps : Keeps txsBody :=
  fun _ => ⟨rfl, fun _ => rfl, id⟩

theorem bitBody_keeps (v : Byte) : Keeps (bitBody v) :=
  fun _ => ⟨rfl, fun _ => rfl, fun h => ((h.setFlag _ _).setFlag _ _).setFlag _ _⟩

theorem cmpBody_keeps (v : Byte) : Keeps (cmpBody v) :=
  fun t => compare_keeps _ v t

theorem cpxBody_keeps (v : Byte) : Keeps (cpxBody v) :=
  fun t => compare_keeps _ v t

theorem cpyBody_keeps (v : Byte) : Keeps (cpyBody v) :=
  fun t => compare_keeps _ v t

theorem clcBody_keeps : Keeps clcBody :=
  fun _ => ⟨rfl, fun _ => rfl, fun h => h.setFlag _ _⟩

theorem secBody_keeps : Keeps secBody :=
  fun _ => ⟨rfl, fun _ => rfl, fun h => h.setFlag _ _⟩

theorem cldBody_keeps : Keeps cldBody :=
  fun _ => ⟨rfl, fun _ => rfl, fun h => h.setFlag _ _⟩

theorem sedBody_keeps : Keeps sedBody :=
  fun _ => ⟨rfl, fun _ => rfl, fun h => h.setFlag _ _⟩

theorem cliBody_keeps : Keeps cliBody :=
  fun _ => ⟨rfl, fun _ => rfl, fun h => h.setFlag _ _⟩

theorem seiBody_keeps : Keeps seiBody :=
  fun _ => ⟨rfl, fun _ => rfl, fun h => h.setFlag _ _⟩

theorem clvBody_keeps : Keeps clvBody :=
  fun _ => ⟨rfl, fun _ => rfl, fun h => h.setFlag _ _⟩

theorem jmpBody_keeps (a : Word) : Keeps (jmpBody a) :=
  fun _ => ⟨rfl, fun _ => rfl, fun h => h⟩

theorem jsrBody_keeps (a : Word) : Keeps (jsrBody a) :=
  fun _ => ⟨rfl, fun _ => rfl, fun h => h.pushWord _⟩

theorem rtsBody_keeps : Keeps rtsBody :=
  fun _ => ⟨rfl, fun _ => rfl, fun h => h.popWord⟩

theorem brkBody_keeps : Keeps brkBody :=
  fun _ => ⟨rfl, fun _ => rfl, fun h => h.takeTrap⟩

theorem rtiBody_keeps : Keeps rtiBody :=
  fun _ => ⟨rfl, fun _ => rfl, fun h => h.returnFromTrap⟩

theorem phaBody_keeps : Keeps phaBody :=
  fun _ => ⟨rfl, fun _ => rfl, fun h => h.push _⟩

theorem phpBody_keeps : Keeps phpBody :=
  fun _ => ⟨rfl, fun _ => rfl, fun h => h.push _⟩

theorem plaBody_keeps : Keeps plaBody :=
  fun t => ⟨rfl, fun _ => rfl, fun h => (State.Inv.setA (s := t.pop.1) h _).setNZ _⟩

theorem plpBody_keeps : Keeps plpBody :=
  fun t => ⟨rfl, fun _ => rfl, fun h => State.Inv.setSr (s := t.pop.1) h _⟩

theorem nopBody_keeps : Keeps nopBody :=
  fun _ => ⟨rfl, fun _ => rfl, id⟩

/-- Every meaning is one of the two shapes, and its body leaves CC to the driver and keeps the
invariant. -/
theorem exec_shape (i : Instr) : Shape i := by
  cases i with
  | ldaImmediate n => exact .value ldaBody_keeps (fun _ => rfl) Mode.noConfusion
  | ldaZeroPage n => exact .value ldaBody_keeps (fun _ => rfl) Mode.noConfusion
  | ldaZeroPageX n => exact .value ldaBody_keeps (fun _ => rfl) Mode.noConfusion
  | ldaAbsolute w => exact .value ldaBody_keeps (fun _ => rfl) Mode.noConfusion
  | ldaAbsoluteX w => exact .value ldaBody_keeps (fun _ => rfl) Mode.noConfusion
  | ldaAbsoluteY w => exact .value ldaBody_keeps (fun _ => rfl) Mode.noConfusion
  | ldaIndirectX n => exact .value ldaBody_keeps (fun _ => rfl) Mode.noConfusion
  | ldaIndirectY n => exact .value ldaBody_keeps (fun _ => rfl) Mode.noConfusion
  | ldxImmediate n => exact .value ldxBody_keeps (fun _ => rfl) Mode.noConfusion
  | ldxZeroPage n => exact .value ldxBody_keeps (fun _ => rfl) Mode.noConfusion
  | ldxZeroPageY n => exact .value ldxBody_keeps (fun _ => rfl) Mode.noConfusion
  | ldxAbsolute w => exact .value ldxBody_keeps (fun _ => rfl) Mode.noConfusion
  | ldxAbsoluteY w => exact .value ldxBody_keeps (fun _ => rfl) Mode.noConfusion
  | ldyImmediate n => exact .value ldyBody_keeps (fun _ => rfl) Mode.noConfusion
  | ldyZeroPage n => exact .value ldyBody_keeps (fun _ => rfl) Mode.noConfusion
  | ldyZeroPageX n => exact .value ldyBody_keeps (fun _ => rfl) Mode.noConfusion
  | ldyAbsolute w => exact .value ldyBody_keeps (fun _ => rfl) Mode.noConfusion
  | ldyAbsoluteX w => exact .value ldyBody_keeps (fun _ => rfl) Mode.noConfusion
  | staZeroPage n => exact .store staValue (fun _ _ => rfl) (fun _ => rfl) Mode.noConfusion
  | staZeroPageX n => exact .store staValue (fun _ _ => rfl) (fun _ => rfl) Mode.noConfusion
  | staAbsolute w => exact .store staValue (fun _ _ => rfl) (fun _ => rfl) Mode.noConfusion
  | staAbsoluteX w => exact .store staValue (fun _ _ => rfl) (fun _ => rfl) Mode.noConfusion
  | staAbsoluteY w => exact .store staValue (fun _ _ => rfl) (fun _ => rfl) Mode.noConfusion
  | staIndirectX n => exact .store staValue (fun _ _ => rfl) (fun _ => rfl) Mode.noConfusion
  | staIndirectY n => exact .store staValue (fun _ _ => rfl) (fun _ => rfl) Mode.noConfusion
  | stxZeroPage n => exact .store stxValue (fun _ _ => rfl) (fun _ => rfl) Mode.noConfusion
  | stxZeroPageY n => exact .store stxValue (fun _ _ => rfl) (fun _ => rfl) Mode.noConfusion
  | stxAbsolute w => exact .store stxValue (fun _ _ => rfl) (fun _ => rfl) Mode.noConfusion
  | styZeroPage n => exact .store styValue (fun _ _ => rfl) (fun _ => rfl) Mode.noConfusion
  | styZeroPageX n => exact .store styValue (fun _ _ => rfl) (fun _ => rfl) Mode.noConfusion
  | styAbsolute w => exact .store styValue (fun _ _ => rfl) (fun _ => rfl) Mode.noConfusion
  | adcImmediate n => exact .value adcBody_keeps (fun _ => rfl) Mode.noConfusion
  | adcZeroPage n => exact .value adcBody_keeps (fun _ => rfl) Mode.noConfusion
  | adcZeroPageX n => exact .value adcBody_keeps (fun _ => rfl) Mode.noConfusion
  | adcAbsolute w => exact .value adcBody_keeps (fun _ => rfl) Mode.noConfusion
  | adcAbsoluteX w => exact .value adcBody_keeps (fun _ => rfl) Mode.noConfusion
  | adcAbsoluteY w => exact .value adcBody_keeps (fun _ => rfl) Mode.noConfusion
  | adcIndirectX n => exact .value adcBody_keeps (fun _ => rfl) Mode.noConfusion
  | adcIndirectY n => exact .value adcBody_keeps (fun _ => rfl) Mode.noConfusion
  | sbcImmediate n => exact .value sbcBody_keeps (fun _ => rfl) Mode.noConfusion
  | sbcZeroPage n => exact .value sbcBody_keeps (fun _ => rfl) Mode.noConfusion
  | sbcZeroPageX n => exact .value sbcBody_keeps (fun _ => rfl) Mode.noConfusion
  | sbcAbsolute w => exact .value sbcBody_keeps (fun _ => rfl) Mode.noConfusion
  | sbcAbsoluteX w => exact .value sbcBody_keeps (fun _ => rfl) Mode.noConfusion
  | sbcAbsoluteY w => exact .value sbcBody_keeps (fun _ => rfl) Mode.noConfusion
  | sbcIndirectX n => exact .value sbcBody_keeps (fun _ => rfl) Mode.noConfusion
  | sbcIndirectY n => exact .value sbcBody_keeps (fun _ => rfl) Mode.noConfusion
  | andImmediate n => exact .value andBody_keeps (fun _ => rfl) Mode.noConfusion
  | andZeroPage n => exact .value andBody_keeps (fun _ => rfl) Mode.noConfusion
  | andZeroPageX n => exact .value andBody_keeps (fun _ => rfl) Mode.noConfusion
  | andAbsolute w => exact .value andBody_keeps (fun _ => rfl) Mode.noConfusion
  | andAbsoluteX w => exact .value andBody_keeps (fun _ => rfl) Mode.noConfusion
  | andAbsoluteY w => exact .value andBody_keeps (fun _ => rfl) Mode.noConfusion
  | andIndirectX n => exact .value andBody_keeps (fun _ => rfl) Mode.noConfusion
  | andIndirectY n => exact .value andBody_keeps (fun _ => rfl) Mode.noConfusion
  | oraImmediate n => exact .value oraBody_keeps (fun _ => rfl) Mode.noConfusion
  | oraZeroPage n => exact .value oraBody_keeps (fun _ => rfl) Mode.noConfusion
  | oraZeroPageX n => exact .value oraBody_keeps (fun _ => rfl) Mode.noConfusion
  | oraAbsolute w => exact .value oraBody_keeps (fun _ => rfl) Mode.noConfusion
  | oraAbsoluteX w => exact .value oraBody_keeps (fun _ => rfl) Mode.noConfusion
  | oraAbsoluteY w => exact .value oraBody_keeps (fun _ => rfl) Mode.noConfusion
  | oraIndirectX n => exact .value oraBody_keeps (fun _ => rfl) Mode.noConfusion
  | oraIndirectY n => exact .value oraBody_keeps (fun _ => rfl) Mode.noConfusion
  | eorImmediate n => exact .value eorBody_keeps (fun _ => rfl) Mode.noConfusion
  | eorZeroPage n => exact .value eorBody_keeps (fun _ => rfl) Mode.noConfusion
  | eorZeroPageX n => exact .value eorBody_keeps (fun _ => rfl) Mode.noConfusion
  | eorAbsolute w => exact .value eorBody_keeps (fun _ => rfl) Mode.noConfusion
  | eorAbsoluteX w => exact .value eorBody_keeps (fun _ => rfl) Mode.noConfusion
  | eorAbsoluteY w => exact .value eorBody_keeps (fun _ => rfl) Mode.noConfusion
  | eorIndirectX n => exact .value eorBody_keeps (fun _ => rfl) Mode.noConfusion
  | eorIndirectY n => exact .value eorBody_keeps (fun _ => rfl) Mode.noConfusion
  | aslAccumulator => exact .modify (fun _ _ _ => rfl) aslFlags_keeps (fun _ => rfl) Mode.noConfusion
  | aslZeroPage n => exact .modify (fun _ _ _ => rfl) aslFlags_keeps (fun _ => rfl) Mode.noConfusion
  | aslZeroPageX n => exact .modify (fun _ _ _ => rfl) aslFlags_keeps (fun _ => rfl) Mode.noConfusion
  | aslAbsolute w => exact .modify (fun _ _ _ => rfl) aslFlags_keeps (fun _ => rfl) Mode.noConfusion
  | aslAbsoluteX w => exact .modify (fun _ _ _ => rfl) aslFlags_keeps (fun _ => rfl) Mode.noConfusion
  | lsrAccumulator => exact .modify (fun _ _ _ => rfl) lsrFlags_keeps (fun _ => rfl) Mode.noConfusion
  | lsrZeroPage n => exact .modify (fun _ _ _ => rfl) lsrFlags_keeps (fun _ => rfl) Mode.noConfusion
  | lsrZeroPageX n => exact .modify (fun _ _ _ => rfl) lsrFlags_keeps (fun _ => rfl) Mode.noConfusion
  | lsrAbsolute w => exact .modify (fun _ _ _ => rfl) lsrFlags_keeps (fun _ => rfl) Mode.noConfusion
  | lsrAbsoluteX w => exact .modify (fun _ _ _ => rfl) lsrFlags_keeps (fun _ => rfl) Mode.noConfusion
  | rolAccumulator => exact .modify (fun _ _ _ => rfl) rolFlags_keeps (fun _ => rfl) Mode.noConfusion
  | rolZeroPage n => exact .modify (fun _ _ _ => rfl) rolFlags_keeps (fun _ => rfl) Mode.noConfusion
  | rolZeroPageX n => exact .modify (fun _ _ _ => rfl) rolFlags_keeps (fun _ => rfl) Mode.noConfusion
  | rolAbsolute w => exact .modify (fun _ _ _ => rfl) rolFlags_keeps (fun _ => rfl) Mode.noConfusion
  | rolAbsoluteX w => exact .modify (fun _ _ _ => rfl) rolFlags_keeps (fun _ => rfl) Mode.noConfusion
  | rorAccumulator => exact .modify (fun _ _ _ => rfl) rorFlags_keeps (fun _ => rfl) Mode.noConfusion
  | rorZeroPage n => exact .modify (fun _ _ _ => rfl) rorFlags_keeps (fun _ => rfl) Mode.noConfusion
  | rorZeroPageX n => exact .modify (fun _ _ _ => rfl) rorFlags_keeps (fun _ => rfl) Mode.noConfusion
  | rorAbsolute w => exact .modify (fun _ _ _ => rfl) rorFlags_keeps (fun _ => rfl) Mode.noConfusion
  | rorAbsoluteX w => exact .modify (fun _ _ _ => rfl) rorFlags_keeps (fun _ => rfl) Mode.noConfusion
  | incZeroPage n => exact .modify (fun _ _ _ => rfl) incFlags_keeps (fun _ => rfl) Mode.noConfusion
  | incZeroPageX n => exact .modify (fun _ _ _ => rfl) incFlags_keeps (fun _ => rfl) Mode.noConfusion
  | incAbsolute w => exact .modify (fun _ _ _ => rfl) incFlags_keeps (fun _ => rfl) Mode.noConfusion
  | incAbsoluteX w => exact .modify (fun _ _ _ => rfl) incFlags_keeps (fun _ => rfl) Mode.noConfusion
  | decZeroPage n => exact .modify (fun _ _ _ => rfl) decFlags_keeps (fun _ => rfl) Mode.noConfusion
  | decZeroPageX n => exact .modify (fun _ _ _ => rfl) decFlags_keeps (fun _ => rfl) Mode.noConfusion
  | decAbsolute w => exact .modify (fun _ _ _ => rfl) decFlags_keeps (fun _ => rfl) Mode.noConfusion
  | decAbsoluteX w => exact .modify (fun _ _ _ => rfl) decFlags_keeps (fun _ => rfl) Mode.noConfusion
  | inx => exact .implied inxBody_keeps (fun _ => rfl) Mode.noConfusion
  | iny => exact .implied inyBody_keeps (fun _ => rfl) Mode.noConfusion
  | dex => exact .implied dexBody_keeps (fun _ => rfl) Mode.noConfusion
  | dey => exact .implied deyBody_keeps (fun _ => rfl) Mode.noConfusion
  | tax => exact .implied taxBody_keeps (fun _ => rfl) Mode.noConfusion
  | tay => exact .implied tayBody_keeps (fun _ => rfl) Mode.noConfusion
  | txa => exact .implied txaBody_keeps (fun _ => rfl) Mode.noConfusion
  | tya => exact .implied tyaBody_keeps (fun _ => rfl) Mode.noConfusion
  | tsx => exact .implied tsxBody_keeps (fun _ => rfl) Mode.noConfusion
  | txs => exact .implied txsBody_keeps (fun _ => rfl) Mode.noConfusion
  | bitZeroPage n => exact .value bitBody_keeps (fun _ => rfl) Mode.noConfusion
  | bitAbsolute w => exact .value bitBody_keeps (fun _ => rfl) Mode.noConfusion
  | cmpImmediate n => exact .value cmpBody_keeps (fun _ => rfl) Mode.noConfusion
  | cmpZeroPage n => exact .value cmpBody_keeps (fun _ => rfl) Mode.noConfusion
  | cmpZeroPageX n => exact .value cmpBody_keeps (fun _ => rfl) Mode.noConfusion
  | cmpAbsolute w => exact .value cmpBody_keeps (fun _ => rfl) Mode.noConfusion
  | cmpAbsoluteX w => exact .value cmpBody_keeps (fun _ => rfl) Mode.noConfusion
  | cmpAbsoluteY w => exact .value cmpBody_keeps (fun _ => rfl) Mode.noConfusion
  | cmpIndirectX n => exact .value cmpBody_keeps (fun _ => rfl) Mode.noConfusion
  | cmpIndirectY n => exact .value cmpBody_keeps (fun _ => rfl) Mode.noConfusion
  | cpxImmediate n => exact .value cpxBody_keeps (fun _ => rfl) Mode.noConfusion
  | cpxZeroPage n => exact .value cpxBody_keeps (fun _ => rfl) Mode.noConfusion
  | cpxAbsolute w => exact .value cpxBody_keeps (fun _ => rfl) Mode.noConfusion
  | cpyImmediate n => exact .value cpyBody_keeps (fun _ => rfl) Mode.noConfusion
  | cpyZeroPage n => exact .value cpyBody_keeps (fun _ => rfl) Mode.noConfusion
  | cpyAbsolute w => exact .value cpyBody_keeps (fun _ => rfl) Mode.noConfusion
  | bcc n => exact .inr ⟨n, _, rfl, rfl, rfl, fun _ _ => rfl, fun _ => rfl⟩
  | bcs n => exact .inr ⟨n, _, rfl, rfl, rfl, fun _ _ => rfl, fun _ => rfl⟩
  | beq n => exact .inr ⟨n, _, rfl, rfl, rfl, fun _ _ => rfl, fun _ => rfl⟩
  | bne n => exact .inr ⟨n, _, rfl, rfl, rfl, fun _ _ => rfl, fun _ => rfl⟩
  | bmi n => exact .inr ⟨n, _, rfl, rfl, rfl, fun _ _ => rfl, fun _ => rfl⟩
  | bpl n => exact .inr ⟨n, _, rfl, rfl, rfl, fun _ _ => rfl, fun _ => rfl⟩
  | bvc n => exact .inr ⟨n, _, rfl, rfl, rfl, fun _ _ => rfl, fun _ => rfl⟩
  | bvs n => exact .inr ⟨n, _, rfl, rfl, rfl, fun _ _ => rfl, fun _ => rfl⟩
  | clc => exact .implied clcBody_keeps (fun _ => rfl) Mode.noConfusion
  | sec => exact .implied secBody_keeps (fun _ => rfl) Mode.noConfusion
  | cld => exact .implied cldBody_keeps (fun _ => rfl) Mode.noConfusion
  | sed => exact .implied sedBody_keeps (fun _ => rfl) Mode.noConfusion
  | cli => exact .implied cliBody_keeps (fun _ => rfl) Mode.noConfusion
  | sei => exact .implied seiBody_keeps (fun _ => rfl) Mode.noConfusion
  | clv => exact .implied clvBody_keeps (fun _ => rfl) Mode.noConfusion
  | brk => exact .implied brkBody_keeps (fun _ => rfl) Mode.noConfusion
  | jmpAbsolute w => exact .address jmpBody_keeps (fun _ => rfl) Mode.noConfusion
  | jmpIndirect w => exact .address jmpBody_keeps (fun _ => rfl) Mode.noConfusion
  | jsrAbsolute w => exact .address jsrBody_keeps (fun _ => rfl) Mode.noConfusion
  | rts => exact .implied rtsBody_keeps (fun _ => rfl) Mode.noConfusion
  | rti => exact .implied rtiBody_keeps (fun _ => rfl) Mode.noConfusion
  | pha => exact .implied phaBody_keeps (fun _ => rfl) Mode.noConfusion
  | php => exact .implied phpBody_keeps (fun _ => rfl) Mode.noConfusion
  | pla => exact .implied plaBody_keeps (fun _ => rfl) Mode.noConfusion
  | plp => exact .implied plpBody_keeps (fun _ => rfl) Mode.noConfusion
  | nop => exact .implied nopBody_keeps (fun _ => rfl) Mode.noConfusion

end Sys2Proof.Machine
end

