-- ==== Sys2Proof/Laws/HostOps.lean ====
section
/-! SUPPORT. What the bulk transfers of the host read and write, byte by byte. -/

namespace Sys2Proof.Machine

theorem readCells_eq (m : Memory) (n start : Nat) :
    readCells m start n = (List.range n).map fun k => Memory.get m (start + k) := by
  induction n generalizing start with
  | zero => rfl
  | succ n ih =>
    rw [readCells, ih, List.range_succ_eq_map]
    simp [Function.comp_def, Nat.add_assoc, Nat.add_comm 1]

theorem wf_writeCells {m : Memory} (h : Memory.wf m) {start : Nat} {bytes : List Byte}
    (hl : start + bytes.length ≤ Memory.size) : Memory.wf (writeCells m start bytes) := by
  induction bytes generalizing m start with
  | nil => exact h
  | cons b bytes ih =>
    simp only [List.length_cons] at hl
    exact ih (Memory.wf_put _ _ h (by omega)) (by omega)

theorem get_writeCells {m : Memory} (h : Memory.wf m) {start : Nat} {bytes : List Byte}
    (hl : start + bytes.length ≤ Memory.size) (k : Nat) :
    Memory.get (writeCells m start bytes) k =
      if start ≤ k ∧ k < start + bytes.length then bytes.getD (k - start) 0#8
      else Memory.get m k := by
  induction bytes generalizing m start with
  | nil =>
    rw [if_neg (by simp only [List.length_nil]; omega)]
    rfl
  | cons b bytes ih =>
    simp only [List.length_cons] at hl ⊢
    rw [writeCells, ih (Memory.wf_put _ _ h (by omega)) (by omega)]
    by_cases hk : k = start
    · subst hk
      rw [if_neg (by omega), if_pos (by omega), Memory.get_put_same _ _ _ h, Nat.sub_self]
      rfl
    · rw [Memory.get_put_ne _ _ _ _ hk]
      by_cases hin : start + 1 ≤ k ∧ k < start + 1 + bytes.length
      · obtain ⟨j, rfl⟩ : ∃ j, k = start + 1 + j := ⟨k - (start + 1), by omega⟩
        rw [if_pos hin, if_pos (by omega), show start + 1 + j - start = j + 1 by omega,
          show start + 1 + j - (start + 1) = j by omega]
        rfl
      · rw [if_neg hin, if_neg (by omega)]

end Sys2Proof.Machine
end

