-- ==== Sys2Proof/Laws/PerInstr.lean ====
section
/-! SUPPORT. Facts about the syntax of every instruction, one lemma per constructor of `Instr`. -/

/-- The shape of an instruction's bytes (spec/30_encoding.md rules R80, R81 and
spec/40_driver_and_modes.md rule R127): well formed, the opcode byte first, as many bytes as the row
says, and the row found again under its opcode. -/
def Sys2Proof.Laws.EncodeShape.Statement (i : Sys2Proof.Instr) : Prop :=
  i.wellFormed = true ∧ (Sys2Proof.encode i).head? = some i.row.opcode ∧
    (Sys2Proof.encode i).length = i.row.length ∧ Sys2Proof.optab i.row.opcode = some i.row

namespace Sys2Proof.Laws.EncodeShape

theorem ldaImmediate (n : Byte) : Statement (.ldaImmediate n) := ⟨rfl, rfl, rfl, rfl⟩
theorem ldaZeroPage (n : Byte) : Statement (.ldaZeroPage n) := ⟨rfl, rfl, rfl, rfl⟩
theorem ldaZeroPageX (n : Byte) : Statement (.ldaZeroPageX n) := ⟨rfl, rfl, rfl, rfl⟩
theorem ldaAbsolute (w : Word) : Statement (.ldaAbsolute w) := ⟨rfl, rfl, rfl, rfl⟩
theorem ldaAbsoluteX (w : Word) : Statement (.ldaAbsoluteX w) := ⟨rfl, rfl, rfl, rfl⟩
theorem ldaAbsoluteY (w : Word) : Statement (.ldaAbsoluteY w) := ⟨rfl, rfl, rfl, rfl⟩
theorem ldaIndirectX (n : Byte) : Statement (.ldaIndirectX n) := ⟨rfl, rfl, rfl, rfl⟩
theorem ldaIndirectY (n : Byte) : Statement (.ldaIndirectY n) := ⟨rfl, rfl, rfl, rfl⟩
theorem ldxImmediate (n : Byte) : Statement (.ldxImmediate n) := ⟨rfl, rfl, rfl, rfl⟩
theorem ldxZeroPage (n : Byte) : Statement (.ldxZeroPage n) := ⟨rfl, rfl, rfl, rfl⟩
theorem ldxZeroPageY (n : Byte) : Statement (.ldxZeroPageY n) := ⟨rfl, rfl, rfl, rfl⟩
theorem ldxAbsolute (w : Word) : Statement (.ldxAbsolute w) := ⟨rfl, rfl, rfl, rfl⟩
theorem ldxAbsoluteY (w : Word) : Statement (.ldxAbsoluteY w) := ⟨rfl, rfl, rfl, rfl⟩
theorem ldyImmediate (n : Byte) : Statement (.ldyImmediate n) := ⟨rfl, rfl, rfl, rfl⟩
theorem ldyZeroPage (n : Byte) : Statement (.ldyZeroPage n) := ⟨rfl, rfl, rfl, rfl⟩
theorem ldyZeroPageX (n : Byte) : Statement (.ldyZeroPageX n) := ⟨rfl, rfl, rfl, rfl⟩
theorem ldyAbsolute (w : Word) : Statement (.ldyAbsolute w) := ⟨rfl, rfl, rfl, rfl⟩
theorem ldyAbsoluteX (w : Word) : Statement (.ldyAbsoluteX w) := ⟨rfl, rfl, rfl, rfl⟩
theorem staZeroPage (n : Byte) : Statement (.staZeroPage n) := ⟨rfl, rfl, rfl, rfl⟩
theorem staZeroPageX (n : Byte) : Statement (.staZeroPageX n) := ⟨rfl, rfl, rfl, rfl⟩
theorem staAbsolute (w : Word) : Statement (.staAbsolute w) := ⟨rfl, rfl, rfl, rfl⟩
theorem staAbsoluteX (w : Word) : Statement (.staAbsoluteX w) := ⟨rfl, rfl, rfl, rfl⟩
theorem staAbsoluteY (w : Word) : Statement (.staAbsoluteY w) := ⟨rfl, rfl, rfl, rfl⟩
theorem staIndirectX (n : Byte) : Statement (.staIndirectX n) := ⟨rfl, rfl, rfl, rfl⟩
theorem staIndirectY (n : Byte) : Statement (.staIndirectY n) := ⟨rfl, rfl, rfl, rfl⟩
theorem stxZeroPage (n : Byte) : Statement (.stxZeroPage n) := ⟨rfl, rfl, rfl, rfl⟩
theorem stxZeroPageY (n : Byte) : Statement (.stxZeroPageY n) := ⟨rfl, rfl, rfl, rfl⟩
theorem stxAbsolute (w : Word) : Statement (.stxAbsolute w) := ⟨rfl, rfl, rfl, rfl⟩
theorem styZeroPage (n : Byte) : Statement (.styZeroPage n) := ⟨rfl, rfl, rfl, rfl⟩
theorem styZeroPageX (n : Byte) : Statement (.styZeroPageX n) := ⟨rfl, rfl, rfl, rfl⟩
theorem styAbsolute (w : Word) : Statement (.styAbsolute w) := ⟨rfl, rfl, rfl, rfl⟩
theorem adcImmediate (n : Byte) : Statement (.adcImmediate n) := ⟨rfl, rfl, rfl, rfl⟩
theorem adcZeroPage (n : Byte) : Statement (.adcZeroPage n) := ⟨rfl, rfl, rfl, rfl⟩
theorem adcZeroPageX (n : Byte) : Statement (.adcZeroPageX n) := ⟨rfl, rfl, rfl, rfl⟩
theorem adcAbsolute (w : Word) : Statement (.adcAbsolute w) := ⟨rfl, rfl, rfl, rfl⟩
theorem adcAbsoluteX (w : Word) : Statement (.adcAbsoluteX w) := ⟨rfl, rfl, rfl, rfl⟩
theorem adcAbsoluteY (w : Word) : Statement (.adcAbsoluteY w) := ⟨rfl, rfl, rfl, rfl⟩
theorem adcIndirectX (n : Byte) : Statement (.adcIndirectX n) := ⟨rfl, rfl, rfl, rfl⟩
theorem adcIndirectY (n : Byte) : Statement (.adcIndirectY n) := ⟨rfl, rfl, rfl, rfl⟩
theorem sbcImmediate (n : Byte) : Statement (.sbcImmediate n) := ⟨rfl, rfl, rfl, rfl⟩
theorem sbcZeroPage (n : Byte) : Statement (.sbcZeroPage n) := ⟨rfl, rfl, rfl, rfl⟩
theorem sbcZeroPageX (n : Byte) : Statement (.sbcZeroPageX n) := ⟨rfl, rfl, rfl, rfl⟩
theorem sbcAbsolute (w : Word) : Statement (.sbcAbsolute w) := ⟨rfl, rfl, rfl, rfl⟩
theorem sbcAbsoluteX (w : Word) : Statement (.sbcAbsoluteX w) := ⟨rfl, rfl, rfl, rfl⟩
theorem sbcAbsoluteY (w : Word) : Statement (.sbcAbsoluteY w) := ⟨rfl, rfl, rfl, rfl⟩
theorem sbcIndirectX (n : Byte) : Statement (.sbcIndirectX n) := ⟨rfl, rfl, rfl, rfl⟩
theorem sbcIndirectY (n : Byte) : Statement (.sbcIndirectY n) := ⟨rfl, rfl, rfl, rfl⟩
theorem andImmediate (n : Byte) : Statement (.andImmediate n) := ⟨rfl, rfl, rfl, rfl⟩
theorem andZeroPage (n : Byte) : Statement (.andZeroPage n) := ⟨rfl, rfl, rfl, rfl⟩
theorem andZeroPageX (n : Byte) : Statement (.andZeroPageX n) := ⟨rfl, rfl, rfl, rfl⟩
theorem andAbsolute (w : Word) : Statement (.andAbsolute w) := ⟨rfl, rfl, rfl, rfl⟩
theorem andAbsoluteX (w : Word) : Statement (.andAbsoluteX w) := ⟨rfl, rfl, rfl, rfl⟩
theorem andAbsoluteY (w : Word) : Statement (.andAbsoluteY w) := ⟨rfl, rfl, rfl, rfl⟩
theorem andIndirectX (n : Byte) : Statement (.andIndirectX n) := ⟨rfl, rfl, rfl, rfl⟩
theorem andIndirectY (n : Byte) : Statement (.andIndirectY n) := ⟨rfl, rfl, rfl, rfl⟩
theorem oraImmediate (n : Byte) : Statement (.oraImmediate n) := ⟨rfl, rfl, rfl, rfl⟩
theorem oraZeroPage (n : Byte) : Statement (.oraZeroPage n) := ⟨rfl, rfl, rfl, rfl⟩
theorem oraZeroPageX (n : Byte) : Statement (.oraZeroPageX n) := ⟨rfl, rfl, rfl, rfl⟩
theorem oraAbsolute (w : Word) : Statement (.oraAbsolute w) := ⟨rfl, rfl, rfl, rfl⟩
theorem oraAbsoluteX (w : Word) : Statement (.oraAbsoluteX w) := ⟨rfl, rfl, rfl, rfl⟩
theorem oraAbsoluteY (w : Word) : Statement (.oraAbsoluteY w) := ⟨rfl, rfl, rfl, rfl⟩
theorem oraIndirectX (n : Byte) : Statement (.oraIndirectX n) := ⟨rfl, rfl, rfl, rfl⟩
theorem oraIndirectY (n : Byte) : Statement (.oraIndirectY n) := ⟨rfl, rfl, rfl, rfl⟩
theorem eorImmediate (n : Byte) : Statement (.eorImmediate n) := ⟨rfl, rfl, rfl, rfl⟩
theorem eorZeroPage (n : Byte) : Statement (.eorZeroPage n) := ⟨rfl, rfl, rfl, rfl⟩
theorem eorZeroPageX (n : Byte) : Statement (.eorZeroPageX n) := ⟨rfl, rfl, rfl, rfl⟩
theorem eorAbsolute (w : Word) : Statement (.eorAbsolute w) := ⟨rfl, rfl, rfl, rfl⟩
theorem eorAbsoluteX (w : Word) : Statement (.eorAbsoluteX w) := ⟨rfl, rfl, rfl, rfl⟩
theorem eorAbsoluteY (w : Word) : Statement (.eorAbsoluteY w) := ⟨rfl, rfl, rfl, rfl⟩
theorem eorIndirectX (n : Byte) : Statement (.eorIndirectX n) := ⟨rfl, rfl, rfl, rfl⟩
theorem eorIndirectY (n : Byte) : Statement (.eorIndirectY n) := ⟨rfl, rfl, rfl, rfl⟩
theorem aslAccumulator : Statement .aslAccumulator := ⟨rfl, rfl, rfl, rfl⟩
theorem aslZeroPage (n : Byte) : Statement (.aslZeroPage n) := ⟨rfl, rfl, rfl, rfl⟩
theorem aslZeroPageX (n : Byte) : Statement (.aslZeroPageX n) := ⟨rfl, rfl, rfl, rfl⟩
theorem aslAbsolute (w : Word) : Statement (.aslAbsolute w) := ⟨rfl, rfl, rfl, rfl⟩
theorem aslAbsoluteX (w : Word) : Statement (.aslAbsoluteX w) := ⟨rfl, rfl, rfl, rfl⟩
theorem lsrAccumulator : Statement .lsrAccumulator := ⟨rfl, rfl, rfl, rfl⟩
theorem lsrZeroPage (n : Byte) : Statement (.lsrZeroPage n) := ⟨rfl, rfl, rfl, rfl⟩
theorem lsrZeroPageX (n : Byte) : Statement (.lsrZeroPageX n) := ⟨rfl, rfl, rfl, rfl⟩
theorem lsrAbsolute (w : Word) : Statement (.lsrAbsolute w) := ⟨rfl, rfl, rfl, rfl⟩
theorem lsrAbsoluteX (w : Word) : Statement (.lsrAbsoluteX w) := ⟨rfl, rfl, rfl, rfl⟩
theorem rolAccumulator : Statement .rolAccumulator := ⟨rfl, rfl, rfl, rfl⟩
theorem rolZeroPage (n : Byte) : Statement (.rolZeroPage n) := ⟨rfl, rfl, rfl, rfl⟩
theorem rolZeroPageX (n : Byte) : Statement (.rolZeroPageX n) := ⟨rfl, rfl, rfl, rfl⟩
theorem rolAbsolute (w : Word) : Statement (.rolAbsolute w) := ⟨rfl, rfl, rfl, rfl⟩
theorem rolAbsoluteX (w : Word) : Statement (.rolAbsoluteX w) := ⟨rfl, rfl, rfl, rfl⟩
theorem rorAccumulator : Statement .rorAccumulator := ⟨rfl, rfl, rfl, rfl⟩
theorem rorZeroPage (n : Byte) : Statement (.rorZeroPage n) := ⟨rfl, rfl, rfl, rfl⟩
theorem rorZeroPageX (n : Byte) : Statement (.rorZeroPageX n) := ⟨rfl, rfl, rfl, rfl⟩
theorem rorAbsolute (w : Word) : Statement (.rorAbsolute w) := ⟨rfl, rfl, rfl, rfl⟩
theorem rorAbsoluteX (w : Word) : Statement (.rorAbsoluteX w) := ⟨rfl, rfl, rfl, rfl⟩
theorem incZeroPage (n : Byte) : Statement (.incZeroPage n) := ⟨rfl, rfl, rfl, rfl⟩
theorem incZeroPageX (n : Byte) : Statement (.incZeroPageX n) := ⟨rfl, rfl, rfl, rfl⟩
theorem incAbsolute (w : Word) : Statement (.incAbsolute w) := ⟨rfl, rfl, rfl, rfl⟩
theorem incAbsoluteX (w : Word) : Statement (.incAbsoluteX w) := ⟨rfl, rfl, rfl, rfl⟩
theorem decZeroPage (n : Byte) : Statement (.decZeroPage n) := ⟨rfl, rfl, rfl, rfl⟩
theorem decZeroPageX (n : Byte) : Statement (.decZeroPageX n) := ⟨rfl, rfl, rfl, rfl⟩
theorem decAbsolute (w : Word) : Statement (.decAbsolute w) := ⟨rfl, rfl, rfl, rfl⟩
theorem decAbsoluteX (w : Word) : Statement (.decAbsoluteX w) := ⟨rfl, rfl, rfl, rfl⟩
theorem inx : Statement .inx := ⟨rfl, rfl, rfl, rfl⟩
theorem iny : Statement .iny := ⟨rfl, rfl, rfl, rfl⟩
theorem dex : Statement .dex := ⟨rfl, rfl, rfl, rfl⟩
theorem dey : Statement .dey := ⟨rfl, rfl, rfl, rfl⟩
theorem tax : Statement .tax := ⟨rfl, rfl, rfl, rfl⟩
theorem tay : Statement .tay := ⟨rfl, rfl, rfl, rfl⟩
theorem txa : Statement .txa := ⟨rfl, rfl, rfl, rfl⟩
theorem tya : Statement .tya := ⟨rfl, rfl, rfl, rfl⟩
theorem tsx : Statement .tsx := ⟨rfl, rfl, rfl, rfl⟩
theorem txs : Statement .txs := ⟨rfl, rfl, rfl, rfl⟩
theorem bitZeroPage (n : Byte) : Statement (.bitZeroPage n) := ⟨rfl, rfl, rfl, rfl⟩
theorem bitAbsolute (w : Word) : Statement (.bitAbsolute w) := ⟨rfl, rfl, rfl, rfl⟩
theorem cmpImmediate (n : Byte) : Statement (.cmpImmediate n) := ⟨rfl, rfl, rfl, rfl⟩
theorem cmpZeroPage (n : Byte) : Statement (.cmpZeroPage n) := ⟨rfl, rfl, rfl, rfl⟩
theorem cmpZeroPageX (n : Byte) : Statement (.cmpZeroPageX n) := ⟨rfl, rfl, rfl, rfl⟩
theorem cmpAbsolute (w : Word) : Statement (.cmpAbsolute w) := ⟨rfl, rfl, rfl, rfl⟩
theorem cmpAbsoluteX (w : Word) : Statement (.cmpAbsoluteX w) := ⟨rfl, rfl, rfl, rfl⟩
theorem cmpAbsoluteY (w : Word) : Statement (.cmpAbsoluteY w) := ⟨rfl, rfl, rfl, rfl⟩
theorem cmpIndirectX (n : Byte) : Statement (.cmpIndirectX n) := ⟨rfl, rfl, rfl, rfl⟩
theorem cmpIndirectY (n : Byte) : Statement (.cmpIndirectY n) := ⟨rfl, rfl, rfl, rfl⟩
theorem cpxImmediate (n : Byte) : Statement (.cpxImmediate n) := ⟨rfl, rfl, rfl, rfl⟩
theorem cpxZeroPage (n : Byte) : Statement (.cpxZeroPage n) := ⟨rfl, rfl, rfl, rfl⟩
theorem cpxAbsolute (w : Word) : Statement (.cpxAbsolute w) := ⟨rfl, rfl, rfl, rfl⟩
theorem cpyImmediate (n : Byte) : Statement (.cpyImmediate n) := ⟨rfl, rfl, rfl, rfl⟩
theorem cpyZeroPage (n : Byte) : Statement (.cpyZeroPage n) := ⟨rfl, rfl, rfl, rfl⟩
theorem cpyAbsolute (w : Word) : Statement (.cpyAbsolute w) := ⟨rfl, rfl, rfl, rfl⟩
theorem bcc (n : Byte) : Statement (.bcc n) := ⟨rfl, rfl, rfl, rfl⟩
theorem bcs (n : Byte) : Statement (.bcs n) := ⟨rfl, rfl, rfl, rfl⟩
theorem beq (n : Byte) : Statement (.beq n) := ⟨rfl, rfl, rfl, rfl⟩
theorem bne (n : Byte) : Statement (.bne n) := ⟨rfl, rfl, rfl, rfl⟩
theorem bmi (n : Byte) : Statement (.bmi n) := ⟨rfl, rfl, rfl, rfl⟩
theorem bpl (n : Byte) : Statement (.bpl n) := ⟨rfl, rfl, rfl, rfl⟩
theorem bvc (n : Byte) : Statement (.bvc n) := ⟨rfl, rfl, rfl, rfl⟩
theorem bvs (n : Byte) : Statement (.bvs n) := ⟨rfl, rfl, rfl, rfl⟩
theorem clc : Statement .clc := ⟨rfl, rfl, rfl, rfl⟩
theorem sec : Statement .sec := ⟨rfl, rfl, rfl, rfl⟩
theorem cld : Statement .cld := ⟨rfl, rfl, rfl, rfl⟩
theorem sed : Statement .sed := ⟨rfl, rfl, rfl, rfl⟩
theorem cli : Statement .cli := ⟨rfl, rfl, rfl, rfl⟩
theorem sei : Statement .sei := ⟨rfl, rfl, rfl, rfl⟩
theorem clv : Statement .clv := ⟨rfl, rfl, rfl, rfl⟩
theorem brk : Statement .brk := ⟨rfl, rfl, rfl, rfl⟩
theorem jmpAbsolute (w : Word) : Statement (.jmpAbsolute w) := ⟨rfl, rfl, rfl, rfl⟩
theorem jmpIndirect (w : Word) : Statement (.jmpIndirect w) := ⟨rfl, rfl, rfl, rfl⟩
theorem jsrAbsolute (w : Word) : Statement (.jsrAbsolute w) := ⟨rfl, rfl, rfl, rfl⟩
theorem rts : Statement .rts := ⟨rfl, rfl, rfl, rfl⟩
theorem rti : Statement .rti := ⟨rfl, rfl, rfl, rfl⟩
theorem pha : Statement .pha := ⟨rfl, rfl, rfl, rfl⟩
theorem php : Statement .php := ⟨rfl, rfl, rfl, rfl⟩
theorem pla : Statement .pla := ⟨rfl, rfl, rfl, rfl⟩
theorem plp : Statement .plp := ⟨rfl, rfl, rfl, rfl⟩
theorem nop : Statement .nop := ⟨rfl, rfl, rfl, rfl⟩

end Sys2Proof.Laws.EncodeShape
end

