-- ==== Sys2Proof/Laws/Step.lean ====
section
/-! SUPPORT. What one step can do, said once. -/

namespace Sys2Proof.Machine

/-- A step that completes ran the instruction decoded at PC, from PC + 1. -/
theorem step_cases {s t : State} (h : step s = .next t) :
    ∃ i rest, decode (fetchBytes s) = .ok (i, rest) ∧ exec i (bumpPc s) = .next t := by
  unfold step at h
  split at h
  · exact ⟨_, _, ‹_›, h⟩
  · cases h

/-- A step is the dispatch on the byte at PC: the instruction, or the fault of rule R241. -/
theorem step_eq (s : State) :
    step s =
      match decodeOpcode (s.readByte s.pc) (s.readByte (s.pc + 1)) (s.readByte (s.pc + 2)) with
      | none => .fault (unknownOpcodeFault s)
      | some i => exec i (bumpPc s) := by
  unfold step fetchBytes
  rw [decode_three]
  cases decodeOpcode (s.readByte s.pc) (s.readByte (s.pc + 1)) (s.readByte (s.pc + 2)) <;> rfl

end Sys2Proof.Machine
end

