-- ==== Sys2Proof/Tests/Slice0.lean ====
section
/-! SUPPORT. The tests of the model: ill-formed rows the check refuses, the words of
spec/30_encoding.md rule R88, one-step vectors of spec/95_test_vectors.md, and a witness for the
hypotheses of each statement. -/

namespace Sys2Proof.Tests

open Sys2Proof Sys2Proof.Machine Sys2Proof.Rule

/-! ### WellFormed: one ill-formed row for each check -/

/-- A zero-page row with the length of an absolute one. -/
theorem test_wellFormed_refuses_length :
    OpRow.wellFormed ⟨0xA5, .lda, .zeroPage, 3, 3⟩ = false ∧
      OpRow.lengthOk ⟨0xA5, .lda, .zeroPage, 3, 3⟩ = false := by decide

/-- A row with 8 base cycles, and one with 1. -/
theorem test_wellFormed_refuses_base :
    OpRow.wellFormed ⟨0xA5, .lda, .zeroPage, 2, 8⟩ = false ∧
      OpRow.wellFormed ⟨0xA5, .lda, .zeroPage, 2, 1⟩ = false := by decide

/-- A store to an immediate operand, an implied load, a relative jump, an indirect load, a
zero-page,Y load of Y, an accumulator increment. -/
theorem test_wellFormed_refuses_mode :
    OpRow.modeOk ⟨0x89, .sta, .immediate, 2, 2⟩ = false ∧
      OpRow.modeOk ⟨0xA7, .lda, .implied, 1, 2⟩ = false ∧
      OpRow.modeOk ⟨0x4C, .jmp, .relative, 2, 3⟩ = false ∧
      OpRow.modeOk ⟨0xB2, .lda, .indirect, 3, 5⟩ = false ∧
      OpRow.modeOk ⟨0xB7, .ldy, .zeroPageY, 2, 4⟩ = false ∧
      OpRow.modeOk ⟨0x1A, .inc, .accumulator, 1, 2⟩ = false := by decide

/-! ### Decode: the word of every row, from the opcode map of spec/30_encoding.md rule R88

Bits 7..0 are the opcode, bits 15..8 the first operand byte 0x34, bits 23..16 the second 0x12. -/

/-- Each word decodes to its instruction. -/
def decodesAs (rows : List (Nat × Nat × Instr)) : Bool :=
  rows.all fun r => decodeTableWord r.1 r.2.1 == some r.2.2

/-- Memory with the bytes given, everything else 0x00. -/
def cells (l : List (Nat × Byte)) : Memory := l.foldl (fun m c => Memory.put m c.1 c.2) []

/-- The default start of the vectors, at the PC given, with the bytes given. -/
def start (pc : Word) (l : List (Nat × Byte)) : State := { State.reset with pc := pc, mem := cells l }

/-- The step completes in a state of which `p` holds. -/
def stepped (s : State) (p : State → Bool) : Bool :=
  match step s with
  | .next t => p t
  | .fault _ | .refused _ => false

theorem test_decode_loads_and_stores :
    decodesAs [(16, 0x34A1, .ldaIndirectX 0x34), (16, 0x34A5, .ldaZeroPage 0x34),
      (16, 0x34A9, .ldaImmediate 0x34), (24, 0x1234AD, .ldaAbsolute 0x1234),
      (16, 0x34B1, .ldaIndirectY 0x34), (16, 0x34B5, .ldaZeroPageX 0x34),
      (24, 0x1234B9, .ldaAbsoluteY 0x1234), (24, 0x1234BD, .ldaAbsoluteX 0x1234)] = true ∧
    decodesAs [(16, 0x34A2, .ldxImmediate 0x34), (16, 0x34A6, .ldxZeroPage 0x34),
      (24, 0x1234AE, .ldxAbsolute 0x1234), (16, 0x34B6, .ldxZeroPageY 0x34),
      (24, 0x1234BE, .ldxAbsoluteY 0x1234)] = true ∧
    decodesAs [(16, 0x34A0, .ldyImmediate 0x34), (16, 0x34A4, .ldyZeroPage 0x34),
      (24, 0x1234AC, .ldyAbsolute 0x1234), (16, 0x34B4, .ldyZeroPageX 0x34),
      (24, 0x1234BC, .ldyAbsoluteX 0x1234)] = true ∧
    decodesAs [(16, 0x3481, .staIndirectX 0x34), (16, 0x3485, .staZeroPage 0x34),
      (24, 0x12348D, .staAbsolute 0x1234), (16, 0x3491, .staIndirectY 0x34),
      (16, 0x3495, .staZeroPageX 0x34), (24, 0x123499, .staAbsoluteY 0x1234),
      (24, 0x12349D, .staAbsoluteX 0x1234)] = true ∧
    decodesAs [(16, 0x3486, .stxZeroPage 0x34), (24, 0x12348E, .stxAbsolute 0x1234),
      (16, 0x3496, .stxZeroPageY 0x34), (16, 0x3484, .styZeroPage 0x34),
      (24, 0x12348C, .styAbsolute 0x1234), (16, 0x3494, .styZeroPageX 0x34)] = true := by decide

theorem test_decode_arithmetic_and_logic :
    decodesAs [(16, 0x3461, .adcIndirectX 0x34), (16, 0x3465, .adcZeroPage 0x34),
      (16, 0x3469, .adcImmediate 0x34), (24, 0x12346D, .adcAbsolute 0x1234),
      (16, 0x3471, .adcIndirectY 0x34), (16, 0x3475, .adcZeroPageX 0x34),
      (24, 0x123479, .adcAbsoluteY 0x1234), (24, 0x12347D, .adcAbsoluteX 0x1234)] = true ∧
    decodesAs [(16, 0x34E1, .sbcIndirectX 0x34), (16, 0x34E5, .sbcZeroPage 0x34),
      (16, 0x34E9, .sbcImmediate 0x34), (24, 0x1234ED, .sbcAbsolute 0x1234),
      (16, 0x34F1, .sbcIndirectY 0x34), (16, 0x34F5, .sbcZeroPageX 0x34),
      (24, 0x1234F9, .sbcAbsoluteY 0x1234), (24, 0x1234FD, .sbcAbsoluteX 0x1234)] = true ∧
    decodesAs [(16, 0x3421, .andIndirectX 0x34), (16, 0x3425, .andZeroPage 0x34),
      (16, 0x3429, .andImmediate 0x34), (24, 0x12342D, .andAbsolute 0x1234),
      (16, 0x3431, .andIndirectY 0x34), (16, 0x3435, .andZeroPageX 0x34),
      (24, 0x123439, .andAbsoluteY 0x1234), (24, 0x12343D, .andAbsoluteX 0x1234)] = true ∧
    decodesAs [(16, 0x3401, .oraIndirectX 0x34), (16, 0x3405, .oraZeroPage 0x34),
      (16, 0x3409, .oraImmediate 0x34), (24, 0x12340D, .oraAbsolute 0x1234),
      (16, 0x3411, .oraIndirectY 0x34), (16, 0x3415, .oraZeroPageX 0x34),
      (24, 0x123419, .oraAbsoluteY 0x1234), (24, 0x12341D, .oraAbsoluteX 0x1234)] = true ∧
    decodesAs [(16, 0x3441, .eorIndirectX 0x34), (16, 0x3445, .eorZeroPage 0x34),
      (16, 0x3449, .eorImmediate 0x34), (24, 0x12344D, .eorAbsolute 0x1234),
      (16, 0x3451, .eorIndirectY 0x34), (16, 0x3455, .eorZeroPageX 0x34),
      (24, 0x123459, .eorAbsoluteY 0x1234), (24, 0x12345D, .eorAbsoluteX 0x1234)] = true := by decide

theorem test_decode_shifts :
    decodesAs [(16, 0x3406, .aslZeroPage 0x34), (8, 0x0A, .aslAccumulator),
      (24, 0x12340E, .aslAbsolute 0x1234), (16, 0x3416, .aslZeroPageX 0x34),
      (24, 0x12341E, .aslAbsoluteX 0x1234)] = true ∧
    decodesAs [(16, 0x3446, .lsrZeroPage 0x34), (8, 0x4A, .lsrAccumulator),
      (24, 0x12344E, .lsrAbsolute 0x1234), (16, 0x3456, .lsrZeroPageX 0x34),
      (24, 0x12345E, .lsrAbsoluteX 0x1234)] = true ∧
    decodesAs [(16, 0x3426, .rolZeroPage 0x34), (8, 0x2A, .rolAccumulator),
      (24, 0x12342E, .rolAbsolute 0x1234), (16, 0x3436, .rolZeroPageX 0x34),
      (24, 0x12343E, .rolAbsoluteX 0x1234)] = true ∧
    decodesAs [(16, 0x3466, .rorZeroPage 0x34), (8, 0x6A, .rorAccumulator),
      (24, 0x12346E, .rorAbsolute 0x1234), (16, 0x3476, .rorZeroPageX 0x34),
      (24, 0x12347E, .rorAbsoluteX 0x1234)] = true := by decide

theorem test_decode_increments_and_transfers :
    decodesAs [(16, 0x34E6, .incZeroPage 0x34), (24, 0x1234EE, .incAbsolute 0x1234),
      (16, 0x34F6, .incZeroPageX 0x34), (24, 0x1234FE, .incAbsoluteX 0x1234),
      (16, 0x34C6, .decZeroPage 0x34), (24, 0x1234CE, .decAbsolute 0x1234),
      (16, 0x34D6, .decZeroPageX 0x34), (24, 0x1234DE, .decAbsoluteX 0x1234)] = true ∧
    decodesAs [(8, 0xE8, .inx), (8, 0xC8, .iny), (8, 0xCA, .dex), (8, 0x88, .dey), (8, 0xAA, .tax),
      (8, 0xA8, .tay), (8, 0x8A, .txa), (8, 0x98, .tya)] = true ∧
    decodesAs [(8, 0xBA, .tsx), (8, 0x9A, .txs)] = true := by decide

theorem test_decode_compares_and_branches :
    decodesAs [(16, 0x3424, .bitZeroPage 0x34), (24, 0x12342C, .bitAbsolute 0x1234)] = true ∧
    decodesAs [(16, 0x34C1, .cmpIndirectX 0x34), (16, 0x34C5, .cmpZeroPage 0x34),
      (16, 0x34C9, .cmpImmediate 0x34), (24, 0x1234CD, .cmpAbsolute 0x1234),
      (16, 0x34D1, .cmpIndirectY 0x34), (16, 0x34D5, .cmpZeroPageX 0x34),
      (24, 0x1234D9, .cmpAbsoluteY 0x1234), (24, 0x1234DD, .cmpAbsoluteX 0x1234)] = true ∧
    decodesAs [(16, 0x34E0, .cpxImmediate 0x34), (16, 0x34E4, .cpxZeroPage 0x34),
      (24, 0x1234EC, .cpxAbsolute 0x1234), (16, 0x34C0, .cpyImmediate 0x34),
      (16, 0x34C4, .cpyZeroPage 0x34), (24, 0x1234CC, .cpyAbsolute 0x1234),
      (16, 0x3490, .bcc 0x34), (16, 0x34B0, .bcs 0x34)] = true ∧
    decodesAs [(16, 0x34F0, .beq 0x34), (16, 0x34D0, .bne 0x34), (16, 0x3430, .bmi 0x34),
      (16, 0x3410, .bpl 0x34), (16, 0x3450, .bvc 0x34), (16, 0x3470, .bvs 0x34)] = true := by decide

theorem test_decode_flags_jumps_stack :
    decodesAs [(8, 0x18, .clc), (8, 0x38, .sec), (8, 0xD8, .cld), (8, 0xF8, .sed), (8, 0x58, .cli),
      (8, 0x78, .sei), (8, 0xB8, .clv)] = true ∧
    decodesAs [(24, 0x12344C, .jmpAbsolute 0x1234), (24, 0x12346C, .jmpIndirect 0x1234),
      (24, 0x123420, .jsrAbsolute 0x1234), (8, 0x60, .rts), (8, 0x40, .rti), (8, 0x00, .brk),
      (8, 0x48, .pha), (8, 0x08, .php)] = true ∧
    decodesAs [(8, 0x68, .pla), (8, 0x28, .plp), (8, 0xEA, .nop)] = true := by decide

/-! ### One step, from the vectors of spec/95_test_vectors.md section 2

The number in a name is the vector's; the start state, the bytes and the expected values are the
vector's own. -/

theorem test_V1_ldaImmediate : stepped (start 0x8000 [(0x8000, 0xA9), (0x8001, 0x00)])
    (fun t => t.sr == 0x32 && t.cc == 2) = true := by decide

theorem test_V5_ldaZeroPageX : stepped
      { start 0x8000 [(0x8000, 0xB5), (0x8001, 0xF0), (0x0010, 0x55), (0x0110, 0xEE)] with x := 0x20 }
    (fun t => t.a == 0x55 && t.sr == 0x30) = true := by decide

theorem test_V7_ldaAbsoluteX : stepped
      { start 0x8000 [(0x8000, 0xBD), (0x8001, 0xF0), (0x8002, 0x12), (0x12FF, 0x01)] with x := 0x0F }
    (fun t => t.a == 0x01 && t.sr == 0x30 && t.cc == 4) = true := by decide

theorem test_V8_ldaAbsoluteX : stepped
      { start 0x8000 [(0x8000, 0xBD), (0x8001, 0xF0), (0x8002, 0x12), (0x1300, 0x77)] with x := 0x10 }
    (fun t => t.a == 0x77 && t.sr == 0x30 && t.cc == 5) = true := by decide

theorem test_V9_ldaAbsoluteY : stepped
      { start 0x8000 [(0x8000, 0xB9), (0x8001, 0xF0), (0x8002, 0x12), (0x1300, 0x77)] with y := 0x10 }
    (fun t => t.a == 0x77 && t.sr == 0x30 && t.cc == 5) = true := by decide

theorem test_V11_ldaIndirectX : stepped
      { start 0x8000 [(0x8000, 0xA1), (0x8001, 0xFE), (0x00FF, 0x00), (0x0000, 0x40), (0x4000, 0x99), (0x0100, 0x77)] with x := 0x01 }
    (fun t => t.a == 0x99 && t.sr == 0xB0) = true := by decide

theorem test_V15_ldaIndirectY : stepped
      { start 0x8000 [(0x8000, 0xB1), (0x8001, 0xFF), (0x00FF, 0x00), (0x0000, 0x40), (0x4001, 0x21), (0x0100, 0x77)] with y := 0x01 }
    (fun t => t.a == 0x21 && t.sr == 0x30 && t.cc == 5) = true := by decide

theorem test_V18_ldxZeroPageY : stepped
      { start 0x8000 [(0x8000, 0xB6), (0x8001, 0x10), (0x000F, 0x33)] with y := 0xFF }
    (fun t => t.x == 0x33 && t.sr == 0x30) = true := by decide

theorem test_V20_ldxAbsoluteY : stepped
      { start 0x8000 [(0x8000, 0xBE), (0x8001, 0xF0), (0x8002, 0x12), (0x1300, 0x01)] with y := 0x10 }
    (fun t => t.x == 0x01 && t.sr == 0x30 && t.cc == 5) = true := by decide

theorem test_V21_ldyImmediate : stepped
      { start 0x8000 [(0x8000, 0xA0), (0x8001, 0x00)] with y := 0x05 }
    (fun t => t.y == 0x00 && t.sr == 0x32) = true := by decide

theorem test_V28_staAbsolute : stepped
      { start 0x8000 [(0x8000, 0x8D), (0x8001, 0x34), (0x8002, 0x12)] with a := 0x80 }
    (fun t => t.readByte 0x1234 == 0x80 && t.cc == 4) = true := by decide

theorem test_V29_staAbsoluteX : stepped
      { start 0x8000 [(0x8000, 0x9D), (0x8001, 0xF0), (0x8002, 0x12)] with a := 0x11, x := 0x10 }
    (fun t => t.readByte 0x1300 == 0x11 && t.cc == 6) = true := by decide

theorem test_V34_staIndirectY : stepped
      { start 0x8000 [(0x8000, 0x91), (0x8001, 0x10), (0x0010, 0xF0), (0x0011, 0x12)] with a := 0x14, y := 0x01 }
    (fun t => t.readByte 0x12F1 == 0x14 && t.cc == 6) = true := by decide

theorem test_V36_stxZeroPageY : stepped
      { start 0x8000 [(0x8000, 0x96), (0x8001, 0x10)] with x := 0x22, y := 0xF1 }
    (fun t => t.readByte 0x0001 == 0x22 && t.cc == 4) = true := by decide

theorem test_V39_styZeroPageX : stepped
      { start 0x8000 [(0x8000, 0x94), (0x8001, 0x10)] with x := 0x01, y := 0x25 }
    (fun t => t.readByte 0x0011 == 0x25 && t.cc == 4) = true := by decide

theorem test_V41_adcImmediate : stepped
      { start 0x8000 [(0x8000, 0x69), (0x8001, 0x50)] with a := 0x50 }
    (fun t => t.a == 0xA0 && t.sr == 0xF0) = true := by decide

theorem test_V42_adcImmediate : stepped
      { start 0x8000 [(0x8000, 0x69), (0x8001, 0x80)] with a := 0x80 }
    (fun t => t.a == 0x00 && t.sr == 0x73) = true := by decide

theorem test_V57_sbcImmediate : stepped
      { start 0x8000 [(0x8000, 0xE9), (0x8001, 0x01)] with a := 0x80, sr := 0x31 }
    (fun t => t.a == 0x7F && t.sr == 0x71) = true := by decide

theorem test_V59_sbcImmediate : stepped
      { start 0x8000 [(0x8000, 0xE9), (0x8001, 0x00)] with a := 0x00, sr := 0x30 }
    (fun t => t.a == 0xFF && t.sr == 0xB0) = true := by decide

theorem test_V65_sbcAbsoluteX : stepped
      { start 0x8000 [(0x8000, 0xFD), (0x8001, 0xF0), (0x8002, 0x12), (0x1300, 0x01)] with a := 0x03, x := 0x10, sr := 0x31 }
    (fun t => t.a == 0x02 && t.sr == 0x31 && t.cc == 5) = true := by decide

theorem test_V68_andImmediate : stepped
      { start 0x8000 [(0x8000, 0x29), (0x8001, 0x80)] with a := 0xFF, sr := 0x71 }
    (fun t => t.a == 0x80 && t.sr == 0xF1) = true := by decide

theorem test_V70_oraImmediate : stepped
      { start 0x8000 [(0x8000, 0x09), (0x8001, 0x80)] with a := 0x01 }
    (fun t => t.a == 0x81 && t.sr == 0xB0) = true := by decide

theorem test_V74_eorImmediate : stepped
      { start 0x8000 [(0x8000, 0x49), (0x8001, 0x80)] with a := 0x00 }
    (fun t => t.a == 0x80 && t.sr == 0xB0) = true := by decide

theorem test_V77_aslAccumulator : stepped
      { start 0x8000 [(0x8000, 0x0A)] with a := 0x40, sr := 0x31 }
    (fun t => t.a == 0x80 && t.sr == 0xB0) = true := by decide

theorem test_V82_aslAbsoluteX : stepped
      { start 0x8000 [(0x8000, 0x1E), (0x8001, 0xF0), (0x8002, 0x12), (0x1300, 0x01)] with x := 0x10 }
    (fun t => t.readByte 0x1300 == 0x02 && t.sr == 0x30 && t.cc == 8) = true := by decide

theorem test_V84_lsrAccumulator : stepped { start 0x8000 [(0x8000, 0x4A)] with a := 0x01 }
    (fun t => t.a == 0x00 && t.sr == 0x33) = true := by decide

theorem test_V85_lsrAccumulator : stepped
      { start 0x8000 [(0x8000, 0x4A)] with a := 0x80, sr := 0xB1 }
    (fun t => t.a == 0x40 && t.sr == 0x30) = true := by decide

theorem test_V89_rolAccumulator : stepped
      { start 0x8000 [(0x8000, 0x2A)] with a := 0x00, sr := 0x31 }
    (fun t => t.a == 0x01 && t.sr == 0x30) = true := by decide

theorem test_V91_rolZeroPage : stepped
      { start 0x8000 [(0x8000, 0x26), (0x8001, 0x10), (0x0010, 0x40)] with sr := 0x31 }
    (fun t => t.readByte 0x0010 == 0x81 && t.sr == 0xB0) = true := by decide

theorem test_V92_rolAbsoluteX : stepped
      { start 0x8000 [(0x8000, 0x3E), (0x8001, 0xF0), (0x8002, 0x12), (0x1300, 0x80)] with x := 0x10 }
    (fun t => t.readByte 0x1300 == 0x00 && t.sr == 0x33 && t.cc == 8) = true := by decide

theorem test_V94_rorAccumulator : stepped
      { start 0x8000 [(0x8000, 0x6A)] with a := 0x00, sr := 0x31 }
    (fun t => t.a == 0x80 && t.sr == 0xB0) = true := by decide

theorem test_V97_rorAbsolute : stepped
      (start 0x8000 [(0x8000, 0x6E), (0x8001, 0x34), (0x8002, 0x12), (0x1234, 0x01)])
    (fun t => t.readByte 0x1234 == 0x00 && t.sr == 0x33) = true := by decide

theorem test_V99_incZeroPage : stepped
      { start 0x8000 [(0x8000, 0xE6), (0x8001, 0x10), (0x0010, 0x7F)] with sr := 0x71 }
    (fun t => t.readByte 0x0010 == 0x80 && t.sr == 0xF1) = true := by decide

theorem test_V102_incAbsoluteX : stepped
      { start 0x8000 [(0x8000, 0xFE), (0x8001, 0xF0), (0x8002, 0x12), (0x1300, 0x41)] with x := 0x10 }
    (fun t => t.readByte 0x1300 == 0x42 && t.sr == 0x30 && t.cc == 8) = true := by decide

theorem test_V103_decZeroPage : stepped
      (start 0x8000 [(0x8000, 0xC6), (0x8001, 0x10), (0x0010, 0x00)])
    (fun t => t.readByte 0x0010 == 0xFF && t.sr == 0xB0) = true := by decide

theorem test_V107_decAbsoluteX : stepped
      { start 0x8000 [(0x8000, 0xDE), (0x8001, 0xF0), (0x8002, 0x12), (0x12FF, 0x10)] with x := 0x0F }
    (fun t => t.readByte 0x12FF == 0x0F && t.sr == 0x30 && t.cc == 7) = true := by decide

theorem test_V108_inx : stepped { start 0x8000 [(0x8000, 0xE8)] with x := 0xFF }
    (fun t => t.x == 0x00 && t.sr == 0x32) = true := by decide

theorem test_V111_iny : stepped { start 0x8000 [(0x8000, 0xC8)] with y := 0x00, sr := 0x32 }
    (fun t => t.y == 0x01 && t.sr == 0x30) = true := by decide

theorem test_V112_dex : stepped { start 0x8000 [(0x8000, 0xCA)] with x := 0x00 }
    (fun t => t.x == 0xFF && t.sr == 0xB0) = true := by decide

theorem test_V115_dey : stepped { start 0x8000 [(0x8000, 0x88)] with y := 0x80, sr := 0xB0 }
    (fun t => t.y == 0x7F && t.sr == 0x30) = true := by decide

theorem test_V116_tax : stepped { start 0x8000 [(0x8000, 0xAA)] with a := 0x80 }
    (fun t => t.x == 0x80 && t.sr == 0xB0) = true := by decide

theorem test_V118_tay : stepped { start 0x8000 [(0x8000, 0xA8)] with a := 0x01 }
    (fun t => t.y == 0x01 && t.sr == 0x30) = true := by decide

theorem test_V119_txa : stepped { start 0x8000 [(0x8000, 0x8A)] with a := 0x09, x := 0x00 }
    (fun t => t.a == 0x00 && t.sr == 0x32) = true := by decide

theorem test_V120_tya : stepped { start 0x8000 [(0x8000, 0x98)] with y := 0xFF }
    (fun t => t.a == 0xFF && t.sr == 0xB0) = true := by decide

theorem test_V121_tsx : stepped { start 0x8000 [(0x8000, 0xBA)] with sp := 0xFF }
    (fun t => t.x == 0xFF && t.sr == 0xB0) = true := by decide

theorem test_V124_txs : stepped { start 0x8000 [(0x8000, 0x9A)] with x := 0x80, sp := 0x10 }
    (fun t => t.sp == 0x80 && t.cc == 2) = true := by decide

theorem test_V125_bitZeroPage : stepped
      { start 0x8000 [(0x8000, 0x24), (0x8001, 0x10), (0x0010, 0xC0)] with a := 0x01 }
    (fun t => t.sr == 0xF2 && t.cc == 3) = true := by decide

theorem test_V126_bitAbsolute : stepped
      { start 0x8000 [(0x8000, 0x2C), (0x8001, 0x34), (0x8002, 0x12), (0x1234, 0x3F)] with a := 0xFF, sr := 0xF2 }
    (fun t => t.sr == 0x30 && t.cc == 4) = true := by decide

theorem test_V128_cmpImmediate : stepped
      { start 0x8000 [(0x8000, 0xC9), (0x8001, 0x41)] with a := 0x40 }
    (fun t => t.sr == 0xB0 && t.cc == 2) = true := by decide

theorem test_V130_cmpImmediate : stepped
      { start 0x8000 [(0x8000, 0xC9), (0x8001, 0xFF)] with a := 0x00 }
    (fun t => t.sr == 0x30 && t.cc == 2) = true := by decide

theorem test_V135_cpxZeroPage : stepped
      { start 0x8000 [(0x8000, 0xE4), (0x8001, 0x10), (0x0010, 0x01)] with x := 0x00 }
    (fun t => t.sr == 0xB0 && t.cc == 3) = true := by decide

theorem test_V138_cpyZeroPage : stepped
      { start 0x8000 [(0x8000, 0xC4), (0x8001, 0x10), (0x0010, 0x01)] with y := 0xFF }
    (fun t => t.sr == 0xB1 && t.cc == 3) = true := by decide

theorem test_V140_bcc : stepped (start 0x8000 [(0x8000, 0x90), (0x8001, 0x05)])
    (fun t => t.pc == 0x8007 && t.cc == 3) = true := by decide

theorem test_V142_bcs : stepped { start 0x8000 [(0x8000, 0xB0), (0x8001, 0xFE)] with sr := 0x31 }
    (fun t => t.pc == 0x8000 && t.cc == 3) = true := by decide

theorem test_V144_beq : stepped { start 0x80FD [(0x80FD, 0xF0), (0x80FE, 0x04)] with sr := 0x32 }
    (fun t => t.pc == 0x8103 && t.cc == 4) = true := by decide

theorem test_V145_beq : stepped (start 0x80FD [(0x80FD, 0xF0), (0x80FE, 0x04)])
    (fun t => t.pc == 0x80FF && t.cc == 2) = true := by decide

theorem test_V147_bne : stepped (start 0x8010 [(0x8010, 0xD0), (0x8011, 0xFB)])
    (fun t => t.pc == 0x800D && t.cc == 3) = true := by decide

theorem test_V149_bne : stepped (start 0x8100 [(0x8100, 0xD0), (0x8101, 0xFD)])
    (fun t => t.pc == 0x80FF && t.cc == 4) = true := by decide

theorem test_V151_bmi : stepped (start 0x8000 [(0x8000, 0x30), (0x8001, 0x7F)])
    (fun t => t.pc == 0x8002 && t.cc == 2) = true := by decide

theorem test_V152_bpl : stepped (start 0x8000 [(0x8000, 0x10), (0x8001, 0x80)])
    (fun t => t.pc == 0x7F82 && t.cc == 4) = true := by decide

theorem test_V156_bvs : stepped { start 0xFFF0 [(0xFFF0, 0x70), (0xFFF1, 0x10)] with sr := 0x70 }
    (fun t => t.pc == 0x0002 && t.cc == 4) = true := by decide

theorem test_V160_clc : stepped { start 0x8000 [(0x8000, 0x18)] with sr := 0xFF }
    (fun t => t.sr == 0xFE && t.cc == 2) = true := by decide

theorem test_V162_sec : stepped (start 0x8000 [(0x8000, 0x38)])
    (fun t => t.sr == 0x31 && t.cc == 2) = true := by decide

theorem test_V164_cld : stepped { start 0x8000 [(0x8000, 0xD8)] with sr := 0xFF }
    (fun t => t.sr == 0xF7 && t.cc == 2) = true := by decide

theorem test_V165_sed : stepped (start 0x8000 [(0x8000, 0xF8)])
    (fun t => t.sr == 0x38 && t.cc == 2) = true := by decide

theorem test_V166_cli : stepped { start 0x8000 [(0x8000, 0x58)] with sr := 0xFF }
    (fun t => t.sr == 0xFB && t.cc == 2) = true := by decide

theorem test_V167_sei : stepped (start 0x8000 [(0x8000, 0x78)])
    (fun t => t.sr == 0x34 && t.cc == 2) = true := by decide

theorem test_V168_clv : stepped { start 0x8000 [(0x8000, 0xB8)] with sr := 0xFF }
    (fun t => t.sr == 0xBF && t.cc == 2) = true := by decide

theorem test_V171_brk : stepped
      { start 0x8000 [(0x8000, 0x00), (0xFFFE, 0x34), (0xFFFF, 0x12)] with sp := 0x01, sr := 0xE3 }
    (fun t => t.readByte 0x0101 == 0x80 && t.readByte 0x0100 == 0x02 && t.readByte 0x01FF == 0xF3 && t.sp == 0xFE && t.sr == 0xF7 && t.pc == 0x1234) = true := by decide

theorem test_V175_jmpIndirect : stepped
      (start 0x8000 [(0x8000, 0x6C), (0x8001, 0xFF), (0x8002, 0x10), (0x10FF, 0x34), (0x1000, 0x12), (0x1100, 0x56)])
    (fun t => t.pc == 0x1234 && t.cc == 5) = true := by decide

theorem test_V174_jmpAbsolute : stepped
      (start 0x8000 [(0x8000, 0x4C), (0x8001, 0x34), (0x8002, 0x12)])
    (fun t => t.pc == 0x1234 && t.cc == 3) = true := by decide

theorem test_V179_jsrAbsolute : stepped
      { start 0x8000 [(0x8000, 0x20), (0x8001, 0x00), (0x8002, 0x90)] with sp := 0x00 }
    (fun t => t.readByte 0x0100 == 0x80 && t.readByte 0x01FF == 0x02 && t.sp == 0xFE && t.pc == 0x9000) = true := by decide

theorem test_V180_jsrAbsolute : stepped
      (start 0x01FD [(0x01FD, 0x20), (0x01FE, 0x00), (0x01FF, 0x90)])
    (fun t => t.readByte 0x01FF == 0x01 && t.readByte 0x01FE == 0xFF && t.sp == 0xFD && t.pc == 0x9000) = true := by decide

theorem test_V181_rts : stepped
      { start 0x9000 [(0x9000, 0x60), (0x01FE, 0x02), (0x01FF, 0x80)] with sp := 0xFD }
    (fun t => t.sp == 0xFF && t.pc == 0x8003) = true := by decide

theorem test_V184_rti : stepped
      { start 0x9000 [(0x9000, 0x40), (0x01FD, 0xC3), (0x01FE, 0x02), (0x01FF, 0x80)] with sp := 0xFC, sr := 0x34 }
    (fun t => t.sp == 0xFF && t.sr == 0xF3 && t.pc == 0x8002) = true := by decide

theorem test_V186_rti : stepped
      { start 0x9000 [(0x9000, 0x40), (0x01FD, 0x00), (0x01FE, 0x34), (0x01FF, 0x12)] with sp := 0xFC, sr := 0xFF }
    (fun t => t.sp == 0xFF && t.sr == 0x30 && t.pc == 0x1234) = true := by decide

theorem test_V188_pha : stepped { start 0x8000 [(0x8000, 0x48)] with a := 0x42, sp := 0x00 }
    (fun t => t.readByte 0x0100 == 0x42 && t.sp == 0xFF) = true := by decide

theorem test_V189_php : stepped { start 0x8000 [(0x8000, 0x08)] with sr := 0xE3 }
    (fun t => t.readByte 0x01FF == 0xF3 && t.sp == 0xFE && t.sr == 0xE3) = true := by decide

theorem test_V191_pla : stepped { start 0x8000 [(0x8000, 0x68), (0x01FF, 0x80)] with sp := 0xFE }
    (fun t => t.a == 0x80 && t.sp == 0xFF && t.sr == 0xB0) = true := by decide

theorem test_V193_plp : stepped
      { start 0x8000 [(0x8000, 0x28), (0x01FF, 0x00)] with sp := 0xFE, sr := 0xFF }
    (fun t => t.sp == 0xFF && t.sr == 0x20) = true := by decide

theorem test_V197_nop : stepped (start 0xFFFF [(0xFFFF, 0xEA)])
    (fun t => t.pc == 0x0000 && t.cc == 2) = true := by decide

theorem test_V199_ldaAbsolute : stepped
      (start 0xFFFE [(0xFFFE, 0xAD), (0xFFFF, 0x34), (0x0000, 0x12), (0x1234, 0x5A)])
    (fun t => t.a == 0x5A && t.sr == 0x30 && t.pc == 0x0001) = true := by decide

/-! ### The host's side -/

/-- The outcome is the fault given. -/
def faulted (o : Host.Outcome State Fault Refusal) (f : Fault) : Bool :=
  match o with
  | .fault g => g == f
  | .next _ | .refused _ => false

/-- spec/70_reset_and_hazards.md rule R273: `reset; step` is the BRK at 0xFFFC. -/
theorem test_reset_then_step :
    stepped State.reset (fun t => t.readByte 0x01FF == 0xFF && t.readByte 0x01FE == 0xFE &&
      t.readByte 0x01FD == 0x30 && t.sp == 0xFC && t.sr == 0x34 && t.pc == 0x0000 && t.cc == 7) =
      true := by decide

/-- spec/95_test_vectors.md V200: the opcode 0x02 at 0x8000. -/
theorem test_V200_undefined :
    faulted (step (start 0x8000 [(0x8000, 0x02)])) (.unknownOpcode 0x02 0x8000) = true := by decide

/-- spec/95_test_vectors.md V202: the opcode 0x80 at 0xFFFF. -/
theorem test_V202_undefined :
    faulted (step (start 0xFFFF [(0xFFFF, 0x80)])) (.unknownOpcode 0x80 0xFFFF) = true := by decide

/-- An instruction placed where the step fetches runs there, three bytes long and across 0xFFFF. -/
theorem test_withFetchWord :
    stepped (State.reset.withFetchWord 24 0x12348D) (fun t => t.pc == 0xFFFF && t.cc == 4) = true ∧
      stepped ((start 0xFFFF []).withFetchWord 24 0x12344C) (fun t => t.pc == 0x1234) = true ∧
      stepped (State.reset.withFetchWord 8 0xEA) (fun t => t.pc == 0xFFFD) = true := by decide

/-- spec/60_exceptions.md rule R242: 2 is no flag value, and the flag's bit is reported. -/
theorem test_statusBitError :
    faulted (hostWriteFlag .overflow 2 State.reset) (.statusBitError 6) = true := by decide

/-- Clearing Unused is accepted and changes nothing (spec/70_reset_and_hazards.md rule R282). -/
theorem test_unused_stays :
    (match hostWriteFlag .unused 0 State.reset with
      | .next t => t == State.reset
      | .fault _ | .refused _ => false) = true := by decide

/-! ### Witnesses: for each statement with hypotheses, a state and operands that meet them all -/

/-- A state that meets the invariant, with a program at 0x8000 and data in page zero. -/
def sample : State :=
  { start 0x8000 [(0x0010, 0xF0), (0x0011, 0x12), (0x8000, 0xBD), (0x8001, 0xF0), (0x8002, 0x12)] with
    a := 0x81, x := 0x10, y := 0x20, sr := 0x31 }

theorem witness_DecodeOfEncodeIsIdentity :
    Instr.wellFormed (.adcImmediate 0x50) = true ∧ Instr.wellFormed (.jmpIndirect 0xFFFF) = true := by
  decide

theorem witness_EncodeOfDecodeIsIdentity :
    decode [0xBD#8, 0xF0#8, 0x12#8, 0xEA#8] = .ok (.ldaAbsoluteX 0x12F0, [0xEA#8]) := rfl

/-- Two forms of one row have one opcode. -/
theorem witness_EveryRowIsWellFormed :
    (Instr.ldaZeroPage 0x10).row.opcode = (Instr.ldaZeroPage 0x20).row.opcode := rfl

/-- Memory in canonical form, for ByteReadAfterByteWrite, WordReadAfterWordWrite, PushAndPopOneByte,
PushAndPopOneWord and BulkTransfersRefuseOutOfRange. -/
theorem witness_memory_in_canonical_form :
    Memory.wf sample.mem ∧ sample.readByte 0x8001 = 0xF0 := by decide

/-- The clauses of ByteReadAfterByteWrite and WordReadAfterWordWrite: addresses that name one cell,
and addresses that do not. -/
theorem witness_addresses :
    65536 % 65536 = 0 % 65536 ∧ 65535 % 65536 ≠ 0 % 65536 ∧ 65535 % 65536 ≠ 65536 % 65536 := by decide

/-- The clauses of PageWrappedWordRead: the last byte of a page and the byte before it. -/
theorem witness_PageWrappedWordRead : 0x10FF % 256 = 255 ∧ 0x10FE % 256 ≠ 255 := by decide

/-- The clauses of PushAndPopOneByte and PushAndPopOneWord: a byte outside the slots at SP = 0. -/
theorem witness_outside_the_slots :
    (0x0101 : Word).toNat ≠ 256 + (0x00 : Byte).toNat ∧
      (0x0101 : Word).toNat ≠ 256 + ((0x00 : Byte).toNat + 255) % 256 := by decide

theorem witness_EqualBytesAreEqualMemory :
    Memory.wf sample.mem ∧ Memory.wf { sample with a := 0 }.mem ∧
      ∀ b : Word, sample.readByte b = { sample with a := 0 }.readByte b :=
  ⟨by decide, by decide, fun _ => rfl⟩

/-- The clauses of BulkTransfersRefuseOutOfRange at the last cell. -/
theorem witness_BulkTransfersRefuseOutOfRange :
    65535 + [0x5A#8].length ≤ 65536 ∧ ¬ 65536 + [0x5A#8].length ≤ 65536 ∧
      (65535 ≤ 65536 ∧ 65536 ≤ 65536) ∧ ¬ (65536 ≤ 65537 ∧ 65537 ≤ 65536) ∧
      ¬ (1 ≤ 0 ∧ 0 ≤ 65536) := by decide

theorem witness_RegisterAccessorsWrap : Reg.sp ≠ Reg.sr := by decide

/-- The clauses of FlagAccessorsWriteOneBit at 0, 1 and 2. -/
theorem witness_FlagAccessorsWriteOneBit : 0 ≤ 1 ∧ 1 ≤ 1 ∧ 1 < 2 := by decide

theorem witness_ImmediateOperandIsTheByteAtPc :
    decode (fetchBytes (start 0xFFFF [(0xFFFF, 0x69), (0x0000, 0x50)])) =
        .ok (.adcImmediate 0x50, [0x00#8]) ∧ (Instr.adcImmediate 0x50).row.mode = .immediate :=
  ⟨rfl, rfl⟩

/-- The clauses of ImmediateOperandIsTheByteAtPc on what is read, at the last byte of page zero. -/
theorem witness_operand_clauses :
    (Instr.adcImmediate 0xFF).form = .immediate 0xFF ∧ Instr.rorAccumulator.form = .accumulator ∧
      (resolve (Instr.ldaZeroPageX 0xEF).form sample).op = .addr 0x00FF := by decide

/-- A form of every mnemonic of the statements on loads, stores, arithmetic and logic. -/
theorem witness_forms_of_loads_stores_arithmetic_logic :
    Instr.ldaIndirectY 0x10 ∈ ldaForms 0x10 0x1234 ∧ Instr.ldxZeroPageY 0x10 ∈ ldxForms 0x10 0x1234 ∧
      Instr.ldyAbsoluteX 0x1234 ∈ ldyForms 0x10 0x1234 ∧
      Instr.staIndirectX 0x10 ∈ staForms 0x10 0x1234 ∧ Instr.stxZeroPageY 0x10 ∈ stxForms 0x10 0x1234 ∧
      Instr.styAbsolute 0x1234 ∈ styForms 0x10 0x1234 ∧
      Instr.adcImmediate 0x10 ∈ adcForms 0x10 0x1234 ∧ Instr.sbcAbsoluteY 0x1234 ∈ sbcForms 0x10 0x1234 ∧
      Instr.andZeroPage 0x10 ∈ andForms 0x10 0x1234 ∧ Instr.oraIndirectY 0x10 ∈ oraForms 0x10 0x1234 ∧
      Instr.eorAbsolute 0x1234 ∈ eorForms 0x10 0x1234 := by decide

/-- A form of every mnemonic of the statements on shifts, increments, tests and compares. -/
theorem witness_forms_of_shifts_increments_compares :
    Instr.aslAccumulator ∈ aslForms 0x10 0x1234 ∧ Instr.lsrZeroPageX 0x10 ∈ lsrForms 0x10 0x1234 ∧
      Instr.rolAbsoluteX 0x1234 ∈ rolForms 0x10 0x1234 ∧
      Instr.rorAccumulator ∈ rorForms 0x10 0x1234 ∧ Instr.incAbsolute 0x1234 ∈ incForms 0x10 0x1234 ∧
      Instr.decZeroPage 0x10 ∈ decForms 0x10 0x1234 ∧ Instr.bitAbsolute 0x1234 ∈ bitForms 0x10 0x1234 ∧
      Instr.cmpIndirectX 0x10 ∈ cmpForms 0x10 0x1234 ∧ Instr.cpxImmediate 0x10 ∈ cpxForms 0x10 0x1234 ∧
      Instr.cpyAbsolute 0x1234 ∈ cpyForms 0x10 0x1234 := by decide

/-- The handler is the state after BRK with A changed. -/
theorem witness_BrkThenRtiResumes : ∃ s t h : State, Memory.wf s.mem ∧ exec .brk s = .next t ∧
    h.sp = t.sp ∧ h.flag .brk = true ∧
    ∀ k ∈ [s.sp, s.sp - 1, s.sp - 2], h.readByte (stackAddr k) = t.readByte (stackAddr k) := by
  refine ⟨sample, _, { sample.takeTrap with a := 7 }, by decide, rfl, rfl, by decide, by decide⟩

/-- The subroutine is the state after JSR with A changed. -/
theorem witness_JsrThenRtsResumes : ∃ (w : Word) (s t h : State), Memory.wf s.mem ∧
    exec (.jsrAbsolute w) s = .next t ∧ h.sp = t.sp ∧
    ∀ k ∈ [s.sp, s.sp - 1], h.readByte (stackAddr k) = t.readByte (stackAddr k) := by
  refine ⟨0x9000, sample, _, { sample.pushWord (sample.pc + 1) with a := 7 }, by decide, rfl, rfl,
    by decide⟩

/-- The instruction at the PC of `sample`, for StepRunsTheDecodedInstruction and
StepAdvancesPastTheInstruction. -/
theorem witness_decoded_instruction :
    Instr.wellFormed (.ldaAbsoluteX 0x12F0) = true ∧
      decode [sample.readByte sample.pc, sample.readByte (sample.pc + 1),
        sample.readByte (sample.pc + 2)] = .ok (.ldaAbsoluteX 0x12F0, []) ∧
      (Instr.ldaAbsoluteX 0x12F0).row.mnemonic ∉ [Mnemonic.jmp, .jsr, .rts, .rti, .brk, .bcc, .bcs,
        .beq, .bne, .bmi, .bpl, .bvc, .bvs] ∧ ∃ t, step sample = .next t :=
  ⟨by decide, rfl, by decide, _, rfl⟩

/-- The second clause of StepAdvancesPastTheInstruction. -/
theorem witness_controls_pc :
    (Instr.bvs 0x10).row.mnemonic ∈ [Mnemonic.jmp, .jsr, .rts, .rti, .brk, .bcc, .bcs, .beq, .bne,
      .bmi, .bpl, .bvc, .bvs] := by decide

/-- The clauses of StepCompletesOrFaults, HostStepReportsCyclesOrTheFault and
CyclesAreBasePlusPenalty on the opcode at PC. -/
theorem witness_defined_and_undefined_opcode :
    optab (sample.readByte sample.pc) ≠ none ∧
      optab ({ sample with pc := 0x8002 }.readByte 0x8002) = none := by decide

/-- The clauses of CyclesAreBasePlusPenalty on the mode. -/
theorem witness_modes_with_and_without_penalty :
    (Instr.ldaAbsolute 0x1234).row.mode ∉ [Mode.absoluteX, .absoluteY, .indirectY, .relative] ∧
      (Instr.staAbsoluteX 0x1234).row.mode ∈ [Mode.absoluteX, .absoluteY, .indirectY] ∧
      (Instr.beq 0x04).row.mode = .relative := by decide

/-- For EveryStepCountsTwoToEightCycles and StepKeepsTheInvariant. -/
theorem witness_StepKeepsTheInvariant : sample.Inv ∧ ∃ t, step sample = .next t :=
  ⟨by decide, _, rfl⟩

/-- For HostOperationsKeepTheInvariant: every operation it names completes somewhere. -/
theorem witness_HostOperationsKeepTheInvariant : sample.Inv ∧
    (∃ t, hostWriteRange 65535 [0x5A#8] sample = .next t) ∧
    (∃ t, hostWriteFlag .carry 0 sample = .next t) ∧
    ∃ t, hostLoadImage ⟨0, 0, 0, 0, 0, 0, 0⟩ (List.replicate 65536 0) sample = .next t :=
  ⟨by decide, ⟨_, if_pos (by decide)⟩, ⟨_, rfl⟩, _, if_pos List.length_replicate⟩

/-- The clauses of SavedImageLoadsBack. -/
theorem witness_SavedImageLoadsBack : sample.Inv ∧ ([] : List Nat).length ≠ 65536 ∧
    (List.replicate 65536 (0 : Nat)).length = 65536 :=
  ⟨by decide, by decide, List.length_replicate⟩

theorem witness_DecimalFlagHasNoEffect :
    Instr.sbcImmediate 0x10 ∈ adcForms 0x10 0x1234 ++ sbcForms 0x10 0x1234 := by decide

/-- For FlagFrame and RegisterFrame: an instruction, its next state, and a flag and a register
outside what it writes. -/
theorem witness_flag_and_register_frame :
    (∃ t, exec (.aslZeroPage 0x10) sample = .next t) ∧
      Flag.overflow ∉ flagsWritten (Instr.aslZeroPage 0x10).row.mnemonic ∧
      (Instr.aslZeroPage 0x10).row.mnemonic ∉ writesA ∧
      (Instr.aslZeroPage 0x10).row.mode ≠ .accumulator ∧
      (Instr.aslZeroPage 0x10).row.mnemonic ∉ writesX ∧
      (Instr.aslZeroPage 0x10).row.mnemonic ∉ writesY ∧
      (Instr.aslZeroPage 0x10).row.mnemonic ∉ writesSp :=
  ⟨⟨_, rfl⟩, by decide, by decide, by decide, by decide, by decide, by decide⟩

/-- For MemoryFrame: a store and an address it does not store to, a push and an address outside its
slots, and an instruction that does neither. -/
theorem witness_MemoryFrame :
    ((∃ t, exec (.staAbsoluteX 0x12F0) sample = .next t) ∧
      ¬ ((Instr.staAbsoluteX 0x12F0).row.mnemonic ∈ storesOperand ∧
        (resolve (Instr.staAbsoluteX 0x12F0).form sample).op = .addr 0x12F0) ∧
      0x12F0#16 ∉ pushedSlots sample.sp (bytesPushed (Instr.staAbsoluteX 0x12F0).row.mnemonic)) ∧
    ((∃ t, exec .brk sample = .next t) ∧ 0x01FC#16 ∉ pushedSlots sample.sp (bytesPushed .brk) ∧
      0x01FD#16 ∈ pushedSlots sample.sp (bytesPushed .brk)) ∧
    ((∃ t, exec .rolAccumulator sample = .next t) ∧ Instr.rolAccumulator.row.mode = .accumulator ∧
      bytesPushed Instr.rolAccumulator.row.mnemonic = 0) :=
  ⟨⟨⟨_, rfl⟩, by decide, by decide⟩, ⟨⟨_, rfl⟩, by decide, by decide⟩, ⟨_, rfl⟩, by decide, by decide⟩

end Sys2Proof.Tests
end

section
/-! PROOFS of the family 10_state: what `SetNZ` writes (spec/10_state.md rule R36), in the words
of the obligations, for the instructions that end in it. -/

namespace Sys2Proof.Proofs

open Sys2Proof.Machine Sys2Proof.Rule

theorem byte_beq_zero_eq_decide (v : Byte) : (v == 0#8) = decide (v.toNat = 0) := by
  rw [beq_eq_decide, decide_eq_decide, BitVec.toNat_eq, BitVec.toNat_zero]

theorem nzFrom_setNZ (s : State) (v : Byte) : nzFrom v (s.setNZ v) := by
  constructor
  · rw [State.flag_setNZ, if_pos rfl, byte_beq_zero_eq_decide]
  · rw [State.flag_setNZ, if_neg (by decide), if_pos rfl, Byte.getLsbD_seven]

theorem onlyFlags_setNZ (s : State) (v : Byte) :
    onlyFlags [.zero, .negative] s (s.setNZ v) := by
  intro f hf
  obtain ⟨hz, hn⟩ : f ≠ .zero ∧ f ≠ .negative := by simpa using hf
  rw [State.flag_setNZ, if_neg hz, if_neg hn]

/-- SR is the only cell `SetNZ` writes. -/
theorem setNZ_restore_sr (s : State) (v : Byte) : { s.setNZ v with sr := s.sr } = s := rfl

/-- Settles O13: the flag read after `SetNZ` is known for every flag, and only SR is written. -/
theorem setNzWritesTwoFlags : Obligations.SetNzWritesTwoFlags := fun s v =>
  ⟨nzFrom_setNZ s v, onlyFlags_setNZ s v, setNZ_restore_sr s v⟩

end Sys2Proof.Proofs
end

section
/-! PROOFS of the family 20_memory: what the host's byte and word accessors read after a write
(spec/20_memory.md rules R52 to R56), addresses being numbers taken modulo 2^16, and what `Push`,
`Pop` and their word forms leave on the stack page (rules R62 to R66). -/

namespace Sys2Proof.Proofs

open Sys2Proof.Machine

/-! ### The host's accessors -/

theorem ofNat_word_eq_iff (a b : Nat) :
    BitVec.ofNat 16 b = BitVec.ofNat 16 a ↔ b % 65536 = a % 65536 := by
  rw [BitVec.toNat_eq, BitVec.toNat_ofNat, BitVec.toNat_ofNat]

theorem hostReadByte_congr {a b : Nat} (h : b % 65536 = a % 65536) (s : State) :
    hostReadByte b s = hostReadByte a s := by
  rw [hostReadByte, (ofNat_word_eq_iff a b).mpr h, hostReadByte]

theorem hostReadByte_hostWriteByte {s : State} (a b v : Nat) (h : Memory.wf s.mem) :
    hostReadByte b (hostWriteByte a v s) =
      if b % 65536 = a % 65536 then BitVec.ofNat 8 v else hostReadByte b s := by
  simp only [← ofNat_word_eq_iff a b]
  exact Memory.read_write _ _ _ _ h

/-- Settles O6: a read after a write, at one cell or at two, is the memory's own law. -/
theorem byteReadAfterByteWrite : Obligations.ByteReadAfterByteWrite := by
  intro s a b v h
  refine ⟨?_, hostReadByte_congr (Nat.mod_mod b 65536).symm s, rfl⟩
  rw [hostReadByte_hostWriteByte a b v h, apply_ite BitVec.toNat, BitVec.toNat_ofNat]

theorem hostReadWord_false (a : Nat) (s : State) :
    hostReadWord a false s = Word.ofBytes (hostReadByte (a + 1) s) (hostReadByte a s) := by
  rw [hostReadByte, BitVec.ofNat_add]
  rfl

theorem lo_ofNat (v : Nat) : Word.lo (BitVec.ofNat 16 v) = BitVec.ofNat 8 v := by
  apply BitVec.eq_of_toNat_eq
  rw [Word.lo_toNat, BitVec.toNat_ofNat, BitVec.toNat_ofNat]
  omega

theorem hi_ofNat (v : Nat) : Word.hi (BitVec.ofNat 16 v) = BitVec.ofNat 8 (v / 256) := by
  apply BitVec.eq_of_toNat_eq
  rw [Word.hi_toNat, BitVec.toNat_ofNat, BitVec.toNat_ofNat]
  omega

/-- The exact form of rule R56: the low byte at `a`, then the high byte at `a + 1`. -/
theorem hostWriteWord_eq (a v : Nat) (s : State) :
    hostWriteWord a v s = hostWriteByte (a + 1) (v / 256) (hostWriteByte a v s) := by
  rw [hostWriteByte, BitVec.ofNat_add, ← hi_ofNat, hostWriteByte, ← lo_ofNat]
  rfl

/-- A byte read after a word write: the high byte, the low byte, or what was there. -/
theorem hostReadByte_hostWriteWord {s : State} (a b v : Nat) (h : Memory.wf s.mem) :
    hostReadByte b (hostWriteWord a v s) =
      if b % 65536 = (a + 1) % 65536 then BitVec.ofNat 8 (v / 256)
      else if b % 65536 = a % 65536 then BitVec.ofNat 8 v else hostReadByte b s := by
  have h' : Memory.wf (hostWriteByte a v s).mem := Memory.wf_write _ _ h
  rw [hostWriteWord_eq, hostReadByte_hostWriteByte _ _ _ h', hostReadByte_hostWriteByte _ _ _ h]

theorem hostReadByte_hostWriteWord_low {s : State} (a v : Nat) (h : Memory.wf s.mem) :
    hostReadByte a (hostWriteWord a v s) = BitVec.ofNat 8 v := by
  rw [hostReadByte_hostWriteWord a a v h, if_neg (by omega), if_pos rfl]

theorem hostReadByte_hostWriteWord_high {s : State} (a v : Nat) (h : Memory.wf s.mem) :
    hostReadByte (a + 1) (hostWriteWord a v s) = BitVec.ofNat 8 (v / 256) := by
  rw [hostReadByte_hostWriteWord a (a + 1) v h, if_pos rfl]

theorem hostReadWord_hostWriteWord {s : State} (a v : Nat) (h : Memory.wf s.mem) :
    hostReadWord a false (hostWriteWord a v s) = BitVec.ofNat 16 v := by
  rw [hostReadWord_false, hostReadByte_hostWriteWord_high a v h,
    hostReadByte_hostWriteWord_low a v h, ← hi_ofNat, ← lo_ofNat, Word.ofBytes_hi_lo]

/-- Settles O7: a word is written as two bytes, and each byte read after it is known. -/
theorem wordReadAfterWordWrite : Obligations.WordReadAfterWordWrite := by
  intro s a b v h
  refine ⟨?word, ?low, ?high, ?frame, rfl, ?order⟩
  case word => rw [hostReadWord_hostWriteWord a v h, BitVec.toNat_ofNat]
  case low => rw [hostReadByte_hostWriteWord_low a v h, BitVec.toNat_ofNat]
  case high => rw [hostReadByte_hostWriteWord_high a v h, BitVec.toNat_ofNat]
  case frame =>
    intro hlow hhigh
    rw [hostReadByte_hostWriteWord a b v h, if_neg hhigh, if_neg hlow]
  case order => rw [hostReadWord_false, Word.ofBytes_toNat]

theorem pageWrapNext_ofNat (a : Nat) :
    pageWrapNext (BitVec.ofNat 16 a) = BitVec.ofNat 16 (a % 65536 / 256 * 256 + (a + 1) % 256) := by
  apply BitVec.eq_of_toNat_eq
  rw [pageWrapNext_toNat, BitVec.toNat_ofNat, BitVec.toNat_ofNat]
  omega

theorem hostReadWord_true (a : Nat) (s : State) :
    hostReadWord a true s =
      Word.ofBytes (hostReadByte (a % 65536 / 256 * 256 + (a + 1) % 256) s)
        (hostReadByte a s) := by
  rw [hostReadByte, ← pageWrapNext_ofNat]
  rfl

/-- Settles O8: off the last byte of a page the wrapped next address is the next address; at it,
it is the page's first. -/
theorem pageWrappedWordRead : Obligations.PageWrappedWordRead := by
  intro s a
  refine ⟨?bytes, fun hoff => ?offEnd, fun hend => ?atEnd⟩
  case bytes => rw [hostReadWord_true, Word.ofBytes_toNat]
  case offEnd =>
    have hnext : (a % 65536 / 256 * 256 + (a + 1) % 256) % 65536 = (a + 1) % 65536 := by omega
    rw [hostReadWord_true, hostReadWord_false, hostReadByte_congr hnext]
  case atEnd =>
    have hfirst : a % 65536 / 256 * 256 + (a + 1) % 256 = a % 65536 - 255 := by omega
    rw [hostReadWord_true, Word.ofBytes_hi, hfirst]

/-! ### The stack -/

/-- A stack slot as the obligations write it: 0x0100 plus the number of the slot. -/
theorem ofNat_eq_stackAddr {n : Nat} {p : Byte} (h : p.toNat = n) :
    BitVec.ofNat 16 (256 + n) = stackAddr p := by
  apply BitVec.eq_of_toNat_eq
  have := p.isLt
  rw [stackAddr_toNat, BitVec.toNat_ofNat, h]
  omega

theorem eq_stackAddr_iff {n : Nat} {p : Byte} (h : p.toNat = n) (b : Word) :
    b = stackAddr p ↔ b.toNat = 256 + n := by
  rw [BitVec.toNat_eq, stackAddr_toNat, h]

theorem byte_add_one_toNat (p : Byte) : (p + 1).toNat = (p.toNat + 1) % 256 :=
  Byte.add_toNat p 1

theorem byte_add_two_toNat (p : Byte) : (p + 1 + 1).toNat = (p.toNat + 2) % 256 := by
  rw [byte_add_one_toNat, byte_add_one_toNat]
  omega

theorem byte_sub_two_toNat (p : Byte) : (p - 1 - 1).toNat = (p.toNat + 254) % 256 := by
  rw [Byte.sub_one_toNat, Byte.sub_one_toNat]
  omega

theorem wf_push {s : State} (v : Byte) (h : Memory.wf s.mem) : Memory.wf (s.push v).mem :=
  Memory.wf_write _ _ h

theorem readByte_push {s : State} (v : Byte) (b : Word) (h : Memory.wf s.mem) :
    (s.push v).readByte b = if b = stackAddr s.sp then v else s.readByte b :=
  Memory.read_write _ _ _ _ h

/-- A byte read after `PushWord`: the low byte, the high byte, or what was there. -/
theorem readByte_pushWord {s : State} (w : Word) (b : Word) (h : Memory.wf s.mem) :
    (s.pushWord w).readByte b =
      if b = stackAddr (s.sp - 1) then w.lo
      else if b = stackAddr s.sp then w.hi else s.readByte b := by
  rw [State.pushWord, readByte_push _ _ (wf_push _ h), readByte_push _ _ h, State.push_sp]

theorem readByte_pushWord_low {s : State} (w : Word) (h : Memory.wf s.mem) :
    (s.pushWord w).readByte (stackAddr (s.sp - 1)) = w.lo := by
  rw [readByte_pushWord w _ h, if_pos rfl]

theorem readByte_pushWord_high {s : State} (w : Word) (h : Memory.wf s.mem) :
    (s.pushWord w).readByte (stackAddr s.sp) = w.hi := by
  rw [readByte_pushWord w _ h, if_neg fun e => Byte.sub_one_ne s.sp (stackAddr_inj.mp e).symm,
    if_pos rfl]

/-- Settles O9: `Push` is one byte write at the slot of SP, `Pop` one byte read at the slot above,
and SP comes back. -/
theorem pushAndPopOneByte : Obligations.PushAndPopOneByte := by
  intro s v h
  obtain ⟨hback, hsp⟩ := State.pop_push s v h
  refine ⟨?slot, Byte.sub_one_toNat s.sp, ?frame, rfl, byte_add_one_toNat s.sp, ?popped, rfl,
    hback, hsp⟩
  case slot => rw [ofNat_eq_stackAddr rfl, readByte_push v _ h, if_pos rfl]
  case frame =>
    intro b hb
    rw [readByte_push v b h, if_neg (mt (eq_stackAddr_iff rfl b).mp hb)]
  case popped => rw [ofNat_eq_stackAddr (byte_add_one_toNat s.sp), State.pop_snd]

/-- The word law of rule R66: the two slots above SP after `PushWord` are the two it wrote. -/
theorem popWord_pushWord {s : State} (w : Word) (h : Memory.wf s.mem) :
    (s.pushWord w).popWord.2 = w ∧ (s.pushWord w).popWord.1.sp = s.sp := by
  have hlow : (s.pushWord w).sp + 1 = s.sp - 1 := Byte.sub_add_one (s.sp - 1)
  have hhigh : (s.pushWord w).sp + 1 + 1 = s.sp := by rw [hlow, Byte.sub_add_one]
  constructor
  · rw [State.popWord_snd, hhigh, hlow, readByte_pushWord_high w h, readByte_pushWord_low w h,
      Word.ofBytes_hi_lo]
  · rw [State.popWord_fst, State.setSp_sp, hhigh]

/-- Settles O10: `PushWord` is two byte writes at two slots, `PopWord` two byte reads at the two
slots above SP. -/
theorem pushAndPopOneWord : Obligations.PushAndPopOneWord := by
  intro s w h
  obtain ⟨hback, hsp⟩ := popWord_pushWord w h
  refine ⟨?highSlot, ?lowSlot, byte_sub_two_toNat s.sp, ?frame, rfl, ?popLow, ?popHigh,
    byte_add_two_toNat s.sp, rfl, hback, hsp⟩
  case highSlot => rw [ofNat_eq_stackAddr rfl, readByte_pushWord_high w h]
  case lowSlot => rw [ofNat_eq_stackAddr (Byte.sub_one_toNat s.sp), readByte_pushWord_low w h]
  case frame =>
    intro b hhigh hlow
    rw [readByte_pushWord w b h, if_neg (mt (eq_stackAddr_iff (Byte.sub_one_toNat s.sp) b).mp hlow),
      if_neg (mt (eq_stackAddr_iff rfl b).mp hhigh)]
  case popLow =>
    rw [State.popWord_snd, Word.ofBytes_lo, ofNat_eq_stackAddr (byte_add_one_toNat s.sp)]
  case popHigh =>
    rw [State.popWord_snd, Word.ofBytes_hi, ofNat_eq_stackAddr (byte_add_two_toNat s.sp)]

end Sys2Proof.Proofs
end

section
/-! PROOFS of the family 40_driver_and_modes: the address, the penalty and the PC of every mode that
resolves to an address (spec/40_driver_and_modes.md rules R114 to R124), as numbers, and PC after
step 5 of the driver (rule R105). -/

namespace Sys2Proof.Proofs

open Sys2Proof.Machine Sys2Proof.Rule

/-! ### The zero-page modes -/

theorem zeroPageIndexed_toNat (n index : Byte) :
    (zeroPageIndexed n index).toNat = (n.toNat + index.toNat) % 256 := by
  rw [zeroPageIndexed, Byte.zext_toNat, Byte.add_toNat]

/-- Settles O16: the sum is taken in a byte and then zero-extended. -/
theorem zeroPageModesWrapInPageZero : Obligations.ZeroPageModesWrapInPageZero := fun n s =>
  ⟨n.zext, zeroPageIndexed n s.x, zeroPageIndexed n s.y, rfl, Byte.zext_toNat n,
    rfl, zeroPageIndexed_toNat n s.x, rfl, zeroPageIndexed_toNat n s.y⟩

/-! ### The indexed modes and the page cross -/

theorem crossPenalty_eq (target reference : Word) :
    crossPenalty target reference =
      if target.toNat / 256 ≠ reference.toNat / 256 then 1 else 0 := by
  simp only [crossPenalty, cross_eq, decide_eq_true_eq]

theorem resolve_absoluteX (w : Word) (s : State) :
    resolve (.absoluteX w) s =
      ⟨.addr (indexed w s.x),
        if (indexed w s.x).toNat / 256 ≠ w.toNat / 256 then 1 else 0, s.pc⟩ := by
  rw [← crossPenalty_eq, resolve]

theorem resolve_absoluteY (w : Word) (s : State) :
    resolve (.absoluteY w) s =
      ⟨.addr (indexed w s.y),
        if (indexed w s.y).toNat / 256 ≠ w.toNat / 256 then 1 else 0, s.pc⟩ := by
  rw [← crossPenalty_eq, resolve]

theorem resolve_indirectY (n : Byte) (s : State) :
    resolve (.indirectY n) s =
      ⟨.addr (indexed (indirectYBase n s) s.y),
        if (indexed (indirectYBase n s) s.y).toNat / 256 ≠ (indirectYBase n s).toNat / 256 then 1
        else 0, s.pc⟩ := by
  rw [← crossPenalty_eq, resolve]

/-- Settles O17: the index is added modulo 2^16, and a page cross is a change of the high byte. -/
theorem absoluteModesPayForAPageCross : Obligations.AbsoluteModesPayForAPageCross := fun w s =>
  ⟨indexed w s.x, indexed w s.y, rfl, indexed_toNat w s.x, resolve_absoluteX w s,
    indexed_toNat w s.y, resolve_absoluteY w s⟩

/-! ### The indirect modes -/

theorem hostReadByte_toNat (w : Word) (s : State) : hostReadByte w.toNat s = s.readByte w := by
  rw [hostReadByte, BitVec.ofNat_toNat, BitVec.setWidth_eq]

theorem hostReadWord_toNat_true (w : Word) (s : State) :
    hostReadWord w.toNat true s = s.readWordWrap w := by
  rw [hostReadWord, if_pos rfl, BitVec.ofNat_toNat, BitVec.setWidth_eq]

theorem readWordWrap_toNat (w : Word) (s : State) :
    (s.readWordWrap w).toNat =
      (hostReadByte (w.toNat / 256 * 256 + (w.toNat + 1) % 256) s).toNat * 256 +
        (s.readByte w).toNat := by
  rw [← hostReadWord_toNat_true, hostReadWord_true, Word.ofBytes_toNat,
    Nat.mod_eq_of_lt w.isLt, hostReadByte_toNat]

/-- A pointer in page zero: both its bytes are in page zero. -/
theorem readWordWrap_zext_toNat (n : Byte) (s : State) :
    (s.readWordWrap n.zext).toNat =
      (hostReadByte ((n.toNat + 1) % 256) s).toNat * 256 + (hostReadByte n.toNat s).toNat := by
  rw [readWordWrap_toNat, ← hostReadByte_toNat, Byte.zext_toNat, Nat.div_eq_of_lt n.isLt,
    Nat.zero_mul, Nat.zero_add]

theorem indirectXPointer_toNat (n : Byte) (s : State) :
    (indirectXPointer n s).toNat =
      (hostReadByte ((n.toNat + s.x.toNat + 1) % 256) s).toNat * 256 +
        (hostReadByte ((n.toNat + s.x.toNat) % 256) s).toNat := by
  rw [indirectXPointer, readWordWrap_zext_toNat, Byte.add_toNat, Nat.mod_add_mod]

/-- Settles O18: each pointer is one page-wrapped word, and the index of `(indirect),Y` is added
after it is read. -/
theorem indirectModesReadWrappedPointers : Obligations.IndirectModesReadWrappedPointers :=
  fun n w s =>
    ⟨s.readWordWrap w, indirectXPointer n s, indirectYBase n s, indexed (indirectYBase n s) s.y,
      readWordWrap_toNat w s, rfl, indirectXPointer_toNat n s, rfl, readWordWrap_zext_toNat n s,
      indexed_toNat (indirectYBase n s) s.y, resolve_indirectY n s⟩

/-! ### The relative mode -/

theorem xor_ones_toNat (n : Byte) : (n ^^^ 0xFF#8).toNat = 255 - n.toNat := by
  rw [show 0xFF#8 = BitVec.allOnes 8 from rfl, BitVec.xor_allOnes, BitVec.toNat_not]

/-- The two cases of rule R123 are the sign-extended offset added modulo 2^16. -/
theorem relativeTarget_toNat (n : Byte) (pc : Word) :
    ((relativeTarget n pc).toNat : Int) =
      (if 128 ≤ n.toNat then ((pc + 1).toNat : Int) - ((n ^^^ 0xFF#8).toNat : Int) - 1
        else ((pc + 1).toNat : Int) + n.toNat) % 65536 := by
  have hn := n.isLt
  rw [relativeTarget, Word.add_toNat, Byte.sext_toNat, xor_ones_toNat]
  split <;> omega

theorem resolve_relative (n : Byte) (s : State) :
    resolve (.relative n) s =
      ⟨.addr (relativeTarget n s.pc),
        if (relativeTarget n s.pc).toNat / 256 ≠ (s.pc + 1).toNat / 256 then 2 else 1,
        s.pc + 1⟩ := by
  rw [resolve, crossPenalty_eq, apply_ite (1 + ·)]

/-- Settles O19: the offset byte is passed first, and the target and its page are taken from
there. -/
theorem relativeModeConsumesTheOffset : Obligations.RelativeModeConsumesTheOffset := fun n s =>
  ⟨relativeTarget n s.pc, relativeTarget_toNat n s.pc, resolve_relative n s⟩

/-! ### PC after the instruction -/

theorem encode_length (i : Instr) : (encode i).length = i.row.length := by
  cases i <;> rfl

theorem pcControlling_iff_mem (m : Mnemonic) :
    m.pcControlling = true ↔
      m ∈ [Mnemonic.jmp, .jsr, .rts, .rti, .brk, .bcc, .bcs, .beq, .bne, .bmi, .bpl, .bvc,
        .bvs] := by
  cases m <;> decide

/-- Outside the PC-controlling mnemonics no body writes PC: step 5 of the driver alone moves it. -/
theorem exec_pc_of_not_pcControlling {i : Instr} {s t : State}
    (hc : i.row.mnemonic.pcControlling = false) (h : exec i s = .next t) : t.pc = pcAfter i s := by
  cases i with
  | bcc | bcs | beq | bne | bmi | bpl | bvc | bvs => exact Bool.noConfusion hc
  | jmpAbsolute | jmpIndirect | jsrAbsolute | rts | rti | brk => exact Bool.noConfusion hc
  | _ => cases h; rfl

/-- Step 1 passes the opcode, step 5 the operand bytes: together the instruction's length. -/
theorem pcAfter_bumpPc_toNat (i : Instr) (s : State) :
    (pcAfter i (bumpPc s)).toNat = (s.pc.toNat + i.row.length) % 65536 := by
  have hpos : 1 + (i.row.length - 1) = i.row.length :=
    Nat.add_sub_cancel' (row_length_bounds i).1
  have hlen : (1 : Word) + BitVec.ofNat 16 (i.row.length - 1) = BitVec.ofNat 16 i.row.length :=
    (BitVec.ofNat_add 1 _).symm.trans (congrArg _ hpos)
  rw [pcAfter, bumpPc, State.setPc_pc, BitVec.add_assoc, hlen, Word.add_toNat,
    BitVec.toNat_ofNat, Nat.add_mod_mod]

/-- Settles O48: the step ran the instruction decoded at PC, whose PC after step 5 is known. -/
theorem stepAdvancesPastTheInstruction : Obligations.StepAdvancesPastTheInstruction := by
  refine ⟨fun s t i rest hd hm hs => ?advances, fun i s hm => ?controls⟩
  case advances =>
    obtain ⟨j, rest', hd', hx⟩ := step_cases hs
    obtain ⟨rfl, rfl⟩ : j = i ∧ rest' = rest := by simpa [hd] using hd'.symm
    have hc : j.row.mnemonic.pcControlling = false :=
      Bool.eq_false_iff.mpr (mt (pcControlling_iff_mem _).mp hm)
    rw [exec_pc_of_not_pcControlling hc hx, pcAfter_bumpPc_toNat, encode_length]
  case controls => exact if_pos ((pcControlling_iff_mem _).mpr hm)

end Sys2Proof.Proofs
end

section
/-! PROOFS of the family 30_encoding: the decoder and the encoder are inverse to each other
(spec/30_encoding.md rules R80 to R84), and which opcodes have a row (rules R87, R89). -/

namespace Sys2Proof.Proofs

open Sys2Proof.Machine Sys2Proof.Rule

/-! ### The bytes of an instruction -/

theorem wellFormed_eq_true (i : Instr) : i.wellFormed = true := by
  cases i <;> rfl

theorem optab_opcode (i : Instr) : optab i.row.opcode = some i.row := by
  obtain ⟨j, hj, hrow⟩ := decodeOpcode_row i 0#8 0#8
  rw [optab, hj, Option.map_some, hrow]

theorem row_wellFormed (i : Instr) : i.row.wellFormed = true :=
  (Bool.and_eq_true_iff.mp (wellFormed_eq_true i)).1

theorem form_mode_eq_row_mode (i : Instr) : i.form.mode = i.row.mode :=
  beq_iff_eq.mp (Bool.and_eq_true_iff.mp (wellFormed_eq_true i)).2

theorem row_length_eq_mode_length (i : Instr) : i.row.length = i.row.mode.length := by
  have h := row_wellFormed i
  rw [OpRow.wellFormed, Bool.and_eq_true_iff, Bool.and_eq_true_iff] at h
  obtain ⟨⟨hlength, -⟩, -⟩ := h
  exact beq_iff_eq.mp hlength

theorem operandBytes_length (i : Instr) : i.form.operandBytes.length = i.row.length - 1 := by
  rw [← encode_length i]
  rfl

/-! ### Decoding what was encoded -/

/-- Dispatched on its own bytes, whatever follows them, an instruction is found again: an operand
byte is handed on as it is, an operand word is put together from its two halves. -/
theorem decodeOpcode_own_bytes (i : Instr) (rest : List Byte) :
    decodeOpcode i.row.opcode ((i.form.operandBytes ++ rest).getD 0 0#8)
      ((i.form.operandBytes ++ rest).getD 1 0#8) = some i := by
  cases i with
  | ldaAbsolute w | ldaAbsoluteX w | ldaAbsoluteY w | ldxAbsolute w | ldxAbsoluteY w
  | ldyAbsolute w | ldyAbsoluteX w | staAbsolute w | staAbsoluteX w | staAbsoluteY w
  | stxAbsolute w | styAbsolute w | adcAbsolute w | adcAbsoluteX w | adcAbsoluteY w
  | sbcAbsolute w | sbcAbsoluteX w | sbcAbsoluteY w | andAbsolute w | andAbsoluteX w
  | andAbsoluteY w | oraAbsolute w | oraAbsoluteX w | oraAbsoluteY w | eorAbsolute w
  | eorAbsoluteX w | eorAbsoluteY w | aslAbsolute w | aslAbsoluteX w | lsrAbsolute w
  | lsrAbsoluteX w | rolAbsolute w | rolAbsoluteX w | rorAbsolute w | rorAbsoluteX w
  | incAbsolute w | incAbsoluteX w | decAbsolute w | decAbsoluteX w | bitAbsolute w
  | cmpAbsolute w | cmpAbsoluteX w | cmpAbsoluteY w | cpxAbsolute w | cpyAbsolute w
  | jmpAbsolute w | jmpIndirect w | jsrAbsolute w =>
    exact congrArg some (congrArg _ (Word.ofBytes_hi_lo w))
  | _ => rfl

/-- Settles O1: the dispatch finds the instruction, and its length takes off its own bytes. -/
theorem decodeOfEncodeIsIdentity : Obligations.DecodeOfEncodeIsIdentity := by
  intro i rest _
  have hfits : i.row.length ≤ (i.form.operandBytes ++ rest).length + 1 := by
    rw [List.length_append, operandBytes_length]
    omega
  rw [encode, List.cons_append, decode, decodeOpcode_own_bytes]
  exact (if_pos hfits).trans
    (congrArg (fun r => Except.ok (i, r)) (List.drop_left' (operandBytes_length i)))

/-! ### Encoding what was decoded -/

/-- The two bytes looked at after the opcode are the first of `tail`, as far as `tail` reaches. -/
theorem take_two_getD (tail : List Byte) {k : Nat} (h2 : k ≤ 2) (hk : k ≤ tail.length) :
    [tail.getD 0 0#8, tail.getD 1 0#8].take k = tail.take k := by
  match k, tail, hk with
  | 0, _, _ => rfl
  | 1, _ :: _, _ => rfl
  | 2, _ :: _ :: _, _ => rfl

/-- A successful `decode`: the dispatch found the instruction and its bytes are all there. -/
theorem decode_ok_cases {bytes rest : List Byte} {i : Instr} (h : decode bytes = .ok (i, rest)) :
    ∃ o tail, bytes = o :: tail ∧ decodeOpcode o (tail.getD 0 0#8) (tail.getD 1 0#8) = some i ∧
      i.row.length ≤ tail.length + 1 ∧ rest = tail.drop (i.row.length - 1) := by
  cases bytes with
  | nil => cases h
  | cons o tail =>
    rw [decode] at h
    split at h
    · cases h
    · next j hj =>
      split at h <;> cases h
      exact ⟨o, tail, rfl, hj, ‹_›, rfl⟩

/-- Settles O2: the dispatch copied the opcode and the operand bytes, and `rest` is what follows
them. -/
theorem encodeOfDecodeIsIdentity : Obligations.EncodeOfDecodeIsIdentity := by
  intro bytes i rest h
  obtain ⟨o, tail, rfl, hd, hfits, rfl⟩ := decode_ok_cases h
  obtain ⟨ho, hb⟩ := decodeOpcode_some hd
  have hlen := (row_length_bounds i).2
  rw [take_two_getD tail (by omega) (by omega)] at hb
  refine ⟨?_, wellFormed_eq_true i⟩
  rw [encode, ho, hb, List.cons_append, List.take_append_drop]

/-! ### The opcode map -/

theorem optab_eq_none_iff (o n h : Byte) : optab o = none ↔ decodeOpcode o n h = none := by
  rw [optab, Option.map_eq_none_iff]
  exact ⟨fun hd => decodeOpcode_none hd n h, fun hd => decodeOpcode_none hd 0#8 0#8⟩

theorem optab_eq_none_iff_mem : ∀ o : Byte, optab o = none ↔ o ∈ undefinedOpcodes := by decide

theorem decode_undefinedOpcode_iff (o : Byte) (rest : List Byte) :
    decode (o :: rest) = .error (.undefinedOpcode o) ↔ optab o = none := by
  rw [optab_eq_none_iff o (rest.getD 0 0#8) (rest.getD 1 0#8), decode]
  cases decodeOpcode o (rest.getD 0 0#8) (rest.getD 1 0#8) with
  | none => exact iff_of_true rfl rfl
  | some i =>
    refine iff_of_false ?_ nofun
    dsimp only
    split <;> exact nofun

/-- Settles O3: the decoder refuses exactly the opcodes without a row, and these are the listed. -/
theorem undefinedOpcodesAreRejected : Obligations.UndefinedOpcodesAreRejected := fun o rest =>
  ⟨(decode_undefinedOpcode_iff o rest).trans (optab_eq_none_iff_mem o), optab_eq_none_iff_mem o⟩

/-- Settles O4: each word is run through the decoder. -/
theorem specWordsDecode : Obligations.SpecWordsDecode :=
  ⟨rfl, rfl, rfl, rfl, rfl, rfl, rfl, rfl, rfl, rfl, rfl, rfl⟩

/-- The length column of rule R127, with the modes of one and of three bytes listed. -/
theorem mode_length_eq (m : Mode) :
    m.length = (if m ∈ [Mode.implied, .accumulator] then 1
      else if m ∈ [Mode.absolute, .absoluteX, .absoluteY, .indirect] then 3 else 2) := by
  cases m <;> rfl

/-- Settles O5: two rows with one opcode are both the row that the table has under it. -/
theorem everyRowIsWellFormed : Obligations.EveryRowIsWellFormed := by
  refine fun i j => ⟨wellFormed_eq_true i, form_mode_eq_row_mode i, encode_length i, ?_,
    optab_opcode i, fun h => ?_⟩
  · rw [row_length_eq_mode_length, mode_length_eq]
  · exact Option.some.inj ((optab_opcode i).symm.trans (h ▸ optab_opcode j))

/-! ### The operand -/

theorem operand_of_immediate {i : Instr} {n : Byte} (h : i.form = .immediate n) (s : State) :
    operand i s = n := by
  rw [operand, h]
  rfl

theorem operand_of_accumulator {i : Instr} (h : i.form = .accumulator) (s : State) :
    operand i s = s.a := by
  rw [operand, h]
  rfl

theorem operand_of_addr {i : Instr} {s : State} {a : Word} (h : (resolve i.form s).op = .addr a) :
    operand i s = s.readByte a := by
  rw [operand, h]
  rfl

/-- The operand bytes of the instruction at PC are those after its opcode. -/
theorem operandBytes_of_decode_fetchBytes {s : State} {i : Instr} {rest : List Byte}
    (h : decode (fetchBytes s) = .ok (i, rest)) :
    i.form.operandBytes =
      [s.readByte (s.pc + 1), s.readByte (s.pc + 2)].take (i.row.length - 1) := by
  obtain ⟨o, tail, he, hd, -, -⟩ := decode_ok_cases h
  obtain ⟨rfl, rfl⟩ := List.cons.inj he
  exact (decodeOpcode_some hd).2

/-- Settles O20: `ReadOp` on each designator, and the operand bytes the decoder copied. -/
theorem immediateOperandIsTheByteAtPc : Obligations.ImmediateOperandIsTheByteAtPc := by
  refine ⟨fun i s => ⟨fun n h => operand_of_immediate h s, fun h => operand_of_accumulator h s,
    fun a h => operand_of_addr h⟩, fun s i rest h => ?_⟩
  have hb := operandBytes_of_decode_fetchBytes h
  refine ⟨fun hm => ?_, hb⟩
  rw [row_length_eq_mode_length, hm] at hb
  rw [← form_mode_eq_row_mode] at hm
  cases hf : i.form with
  | immediate n =>
    rw [hf] at hb
    rw [operand_of_immediate hf]
    exact (List.cons.inj hb).1
  | _ => rw [hf] at hm; cases hm

end Sys2Proof.Proofs
end

section
/-! PROOFS of the families 40_driver_and_modes and 47_branch: every instruction completes
(spec/00_scope.md rule R9), what a step answers (spec/40_driver_and_modes.md rules R101, R107), the
common branch body (spec/47_branch.md rule R200), the cycles counted (rule R106), and that a step
keeps the invariant and never looks at the cycle count (spec/10_state.md rules R28, R29). -/

namespace Sys2Proof.Proofs

open Sys2Proof.Machine Sys2Proof.Rule

/-! ### Every instruction completes and keeps the invariant -/

theorem exec_completes (i : Instr) (s : State) : ∃ t, exec i s = .next t := by
  obtain ⟨-, body, -, hx⟩ | ⟨n, taken, hf, -, -, -, hx⟩ := exec_shape i
  · exact ⟨_, hx s⟩
  · rw [hx, runBranch_eq i n hf]
    split <;> exact ⟨_, rfl⟩

/-- Settles O44: whatever its shape, a meaning ends in `retire`. -/
theorem everyInstructionCompletes : Obligations.EveryInstructionCompletes := exec_completes

theorem exec_keeps_inv (i : Instr) {s : State} (h : s.Inv) : ∃ t, exec i s = .next t ∧ t.Inv := by
  obtain ⟨-, body, hb, hx⟩ | ⟨n, taken, -, -, -, -, hx⟩ := exec_shape i
  · exact hx s ▸ runBody_keeps i body (fun op t => (hb op t).2.2) h
  · exact hx s ▸ runBranch_keeps i taken h

/-! ### What a step answers -/

theorem step_of_decode {s : State} {i : Instr} {rest : List Byte}
    (h : decode (fetchBytes s) = .ok (i, rest)) : step s = exec i (bumpPc s) := by
  rw [step, h]

/-- Settles O45: the three bytes of the hypothesis are those a step fetches. -/
theorem stepRunsTheDecodedInstruction : Obligations.StepRunsTheDecodedInstruction :=
  fun _ _ _ _ h => step_of_decode h

/-- The two outcomes of a step: it runs an instruction, or it faults at a byte without a row. -/
theorem step_exec_or_fault (s : State) :
    (optab (s.readByte s.pc) ≠ none ∧ ∃ i, step s = exec i (bumpPc s)) ∨
      (optab (s.readByte s.pc) = none ∧ step s = .fault (unknownOpcodeFault s)) := by
  rw [step_eq, Ne, optab_eq_none_iff _ (s.readByte (s.pc + 1)) (s.readByte (s.pc + 2))]
  cases decodeOpcode (s.readByte s.pc) (s.readByte (s.pc + 1)) (s.readByte (s.pc + 2)) with
  | none => exact .inr ⟨rfl, rfl⟩
  | some i => exact .inl ⟨nofun, i, rfl⟩

theorem step_of_undefined {s : State} (h : optab (s.readByte s.pc) = none) :
    step s = .fault (unknownOpcodeFault s) := by
  obtain ⟨hd, -⟩ | ⟨-, hs⟩ := step_exec_or_fault s
  · exact absurd h hd
  · exact hs

theorem step_of_defined {s : State} (h : optab (s.readByte s.pc) ≠ none) :
    ∃ t, step s = .next t := by
  obtain ⟨-, i, hs⟩ | ⟨hu, -⟩ := step_exec_or_fault s
  · exact hs ▸ exec_completes i (bumpPc s)
  · exact absurd hu h

theorem hostStep_of_next {s t : State} (h : step s = .next t) : hostStep s = (t, .cycles t.cc) := by
  rw [hostStep, h]

theorem hostStep_of_undefined {s : State} (h : optab (s.readByte s.pc) = none) :
    hostStep s = (stateAfterUnknownOpcode s, .error (unknownOpcodeFault s)) := by
  rw [hostStep, step_of_undefined h]

/-- Settles O46: the two cases are whether the byte at PC has a row. -/
theorem stepCompletesOrFaults : Obligations.StepCompletesOrFaults := by
  intro s
  by_cases h : optab (s.readByte s.pc) = none
  · exact .inr ⟨h, step_of_undefined h⟩
  · obtain ⟨t, ht⟩ := step_of_defined h
    exact .inl ⟨h, t, ht, hostStep_of_next ht⟩

/-- Whatever `UNK_PC_BUMP` is, only PC may have moved, and by one. -/
theorem stateAfterUnknownOpcode_eq (s : State) :
    ∃ p, (p = s.pc ∨ p = s.pc + 1) ∧ stateAfterUnknownOpcode s = { s with pc := p } := by
  rw [stateAfterUnknownOpcode]
  split
  · exact ⟨s.pc + 1, .inr rfl, rfl⟩
  · exact ⟨s.pc, .inl rfl, rfl⟩

/-- Settles O47: the host reports what the step answers, or the fault with the state of rule
R241. -/
theorem hostStepReportsCyclesOrTheFault : Obligations.HostStepReportsCyclesOrTheFault := by
  refine fun s => ⟨fun h => ?completes, fun h => ?faults⟩
  case completes =>
    obtain ⟨t, ht⟩ := step_of_defined h
    exact ⟨t, ht, hostStep_of_next ht⟩
  case faults =>
    obtain ⟨p, hp, hs⟩ := stateAfterUnknownOpcode_eq s
    exact ⟨p, hp, hs ▸ hostStep_of_undefined h⟩

/-- Settles O51: a completed step ran one instruction, and every instruction keeps the
invariant. -/
theorem stepKeepsTheInvariant : Obligations.StepKeepsTheInvariant := by
  intro s t h hs
  obtain ⟨i, rest, -, hx⟩ := step_cases hs
  obtain ⟨u, hu, hinv⟩ := exec_keeps_inv i (s := bumpPc s) h
  obtain rfl : u = t := by simpa [hu] using hx
  exact hinv

/-! ### The cycle count -/

theorem resolve_pen_eq_zero {f : Form} (s : State)
    (h : f.mode ∉ [Mode.absoluteX, .absoluteY, .indirectY, .relative]) : (resolve f s).pen = 0 := by
  cases f with
  | absoluteX | absoluteY | indirectY | relative => simp [Form.mode] at h
  | _ => rfl

theorem penalty_le (i : Instr) (s : State) :
    penalty i s ≤ if i.row.mode = .relative then 2 else 1 := by
  rw [← form_mode_eq_row_mode]
  exact resolve_pen_le i.form s

/-- What an instruction adds to CC outside the branches: its base cycles and the penalty of its
mode. -/
theorem exec_cc_of_not_relative {i : Instr} (hm : i.row.mode ≠ .relative) (s : State) :
    ∃ t, exec i s = .next t ∧ t.cc = ccAfter i s := by
  obtain ⟨-, body, hb, hx⟩ | ⟨n, taken, -, hrel, -⟩ := exec_shape i
  · refine ⟨_, (hx s).trans (runBody_eq i body s), ?_⟩
    dsimp only
    rw [(hb _ s).1]
    rfl
  · exact absurd hrel hm

/-! ### The branches -/

theorem branchTarget_eq (pc : Word) (n : Byte) : branchTarget pc n = relativeTarget n pc := by
  have h1 : BitVec.toNat (1 : Word) = 1 := rfl
  apply BitVec.eq_of_toNat_eq
  rw [branchTarget, relativeTarget, BitVec.toNat_ofNat, Word.add_toNat, Word.add_toNat,
    Byte.sext_toNat, h1]
  split <;> split <;> omega

theorem branchCycles_eq (target reference : Word) :
    (if target.toNat / 256 = reference.toNat / 256 then 0 else 1) =
      crossPenalty target reference := by
  rw [crossPenalty_eq, ite_not]

/-- The common branch body in the words of rule R200. -/
theorem branches_of_runBranch {i : Instr} {n : Byte} (taken : State → Bool)
    (hf : i.form = .relative n) (hc : i.row.mnemonic.pcControlling = true)
    (hx : ∀ s, exec i s = runBranch i taken s) (s : State) : branches i n (taken s) s := by
  rw [branches, hx, runBranch_eq i n hf, branchCycles_eq, branchTarget_eq]
  cases taken s with
  | true =>
    rw [if_pos rfl, if_pos rfl, retire_eq, hc, if_pos rfl, ← Nat.add_assoc]
    rfl
  | false =>
    rw [if_neg Bool.false_ne_true, if_neg Bool.false_ne_true, retire_eq, hc, if_pos rfl]
    rfl

/-- Settles O31: BEQ is the common branch body with the condition Z = 1. -/
theorem beqBranchesOnZero : Obligations.BeqBranchesOnZero := fun _ _ s =>
  ⟨rfl, branches_of_runBranch beqTaken rfl rfl (fun _ => rfl) s, rfl, rfl, rfl, rfl⟩

/-- Settles O32: the seven are the common branch body, each with its own condition. -/
theorem otherBranchesTestTheirFlag : Obligations.OtherBranchesTestTheirFlag := fun _ _ s =>
  ⟨⟨rfl, branches_of_runBranch bccTaken rfl rfl (fun _ => rfl) s⟩,
    ⟨rfl, branches_of_runBranch bcsTaken rfl rfl (fun _ => rfl) s⟩,
    ⟨rfl, branches_of_runBranch bneTaken rfl rfl (fun _ => rfl) s⟩,
    ⟨rfl, branches_of_runBranch bmiTaken rfl rfl (fun _ => rfl) s⟩,
    ⟨rfl, branches_of_runBranch bplTaken rfl rfl (fun _ => rfl) s⟩,
    ⟨rfl, branches_of_runBranch bvcTaken rfl rfl (fun _ => rfl) s⟩,
    ⟨rfl, branches_of_runBranch bvsTaken rfl rfl (fun _ => rfl) s⟩⟩

theorem branches_of_relative {i : Instr} (hm : i.row.mode = .relative) (s : State) :
    ∃ n cond, i.form = .relative n ∧ branches i n cond s := by
  obtain ⟨hnot, -⟩ | ⟨n, taken, hf, -, hc, -, hx⟩ := exec_shape i
  · exact absurd hm hnot
  · exact ⟨n, taken s, hf, branches_of_runBranch taken hf hc hx s⟩

/-- A branch writes PC and CC only. -/
theorem exec_relative_eq {i : Instr} {s t : State} (hm : i.row.mode = .relative)
    (h : exec i s = .next t) : t = { s with pc := t.pc, cc := t.cc } := by
  obtain ⟨n, cond, -, hb⟩ := branches_of_relative hm s
  rw [branches, h] at hb
  obtain rfl := Host.Outcome.next.inj hb
  split <;> rfl

/-- What a branch adds to CC: its base cycles, and the penalty of the mode when it is taken. -/
theorem exec_cc_of_relative {i : Instr} (hm : i.row.mode = .relative) (s : State) :
    ∃ t, exec i s = .next t ∧
      (t.cc = s.cc + i.row.base ∧ t.pc = s.pc + 1 ∨
        t.cc = ccAfter i s ∧ 1 ≤ penalty i s ∧ (resolve i.form s).op = .addr t.pc) := by
  obtain ⟨n, cond, hf, hb⟩ := branches_of_relative hm s
  rw [branches, branchCycles_eq, branchTarget_eq] at hb
  refine ⟨_, hb, ?_⟩
  cases cond with
  | false => exact .inl ⟨rfl, rfl⟩
  | true =>
    rw [ccAfter, penalty, hf]
    exact .inr ⟨Nat.add_assoc _ _ _, Nat.le_add_right _ _, rfl⟩

/-! ### Cycles -/

/-- Settles O49: a mode's penalty is counted once, and a branch not taken counts none. -/
theorem cyclesAreBasePlusPenalty : Obligations.CyclesAreBasePlusPenalty := by
  refine ⟨fun i s => ?completes, fun s h => ?faults⟩
  case completes =>
    have hle := penalty_le i s
    by_cases hm : i.row.mode = .relative
    · rw [if_pos hm] at hle
      obtain ⟨t, hx, ⟨hcc, hpc⟩ | ⟨hcc, hpos, hop⟩⟩ := exec_cc_of_relative hm s
      · exact ⟨t, 0, hx, hcc, by simp [hm], by simp [hm], fun _ => .inl ⟨rfl, hpc⟩⟩
      · exact ⟨t, _, hx, hcc, by simp [hm], by simp [hm], fun _ => .inr ⟨rfl, hpos, hle, hop⟩⟩
    · rw [if_neg hm] at hle
      obtain ⟨t, hx, hcc⟩ := exec_cc_of_not_relative hm s
      refine ⟨t, _, hx, hcc, fun hno => ?_, fun _ => ⟨rfl, hle⟩, fun hrel => absurd hrel hm⟩
      exact resolve_pen_eq_zero s (form_mode_eq_row_mode i ▸ hno)
  case faults =>
    obtain ⟨p, -, hs⟩ := stateAfterUnknownOpcode_eq s
    rw [hostStep_of_undefined h, hs]

/-- The column of base cycles, with the highest penalty of the mode: between 2 and 8. -/
theorem base_bounds (i : Instr) :
    2 ≤ i.row.base ∧ i.row.base + (if i.row.mode = .relative then 2 else 1) ≤ 8 := by
  cases i <;> exact ⟨Nat.le_of_ble_eq_true rfl, Nat.le_of_ble_eq_true rfl⟩

theorem exec_cc_bounds {i : Instr} {s t : State} (h : exec i s = .next t) :
    s.cc + i.row.base ≤ t.cc ∧
      t.cc ≤ s.cc + i.row.base + (if i.row.mode = .relative then 2 else 1) := by
  have hle := penalty_le i s
  by_cases hm : i.row.mode = .relative
  · obtain ⟨u, hu, hcc⟩ := exec_cc_of_relative hm s
    obtain rfl := Host.Outcome.next.inj (h.symm.trans hu)
    rw [ccAfter] at hcc
    omega
  · obtain ⟨u, hu, hcc⟩ := exec_cc_of_not_relative hm s
    obtain rfl := Host.Outcome.next.inj (h.symm.trans hu)
    rw [ccAfter] at hcc
    omega

/-- Settles O50: a completed step ran one instruction, whose row leaves that room. -/
theorem everyStepCountsTwoToEightCycles : Obligations.EveryStepCountsTwoToEightCycles := by
  intro s t hs
  obtain ⟨i, rest, -, hx⟩ := step_cases hs
  obtain ⟨hlow, hhigh⟩ := exec_cc_bounds hx
  obtain ⟨hbase, hroom⟩ := base_bounds i
  rw [bumpPc, State.setPc_cc] at hlow hhigh
  omega

/-! ### Nothing depends on the cycle count -/

/-- The state with `k` more cycles counted. -/
def moreCycles (k : Nat) (s : State) : State := { s with cc := s.cc + k }

theorem resolve_moreCycles (f : Form) (k : Nat) (s : State) :
    resolve f (moreCycles k s) = resolve f s := resolve_congr f rfl rfl rfl rfl

theorem retire_moreCycles (i : Instr) (pen : Nat) {s t : State} (h : retire i pen s = .next t)
    (k : Nat) : retire i pen (moreCycles k s) = .next (moreCycles k t) := by
  rw [retire_eq] at h ⊢
  obtain rfl := Host.Outcome.next.inj h
  simp only [moreCycles, Nat.add_right_comm _ k]

theorem runBody_moreCycles (i : Instr) {body : Op → State → State} (hb : ∀ op, Keeps (body op))
    {s t : State} (h : runBody i body s = .next t) (k : Nat) :
    runBody i body (moreCycles k s) = .next (moreCycles k t) := by
  obtain ⟨hcc, hset, -⟩ := hb (resolve i.form s).op s
  have hbody : body (resolve i.form s).op (moreCycles k s) =
      moreCycles k (body (resolve i.form s).op s) := by rw [moreCycles, hset, moreCycles, hcc]
  rw [runBody, resolve_moreCycles, hbody]
  exact retire_moreCycles i _ h k

theorem runBranch_moreCycles (i : Instr) {n : Byte} (hf : i.form = .relative n)
    {taken : State → Bool} (htaken : ∀ s c, taken { s with cc := c } = taken s)
    {s t : State} (h : runBranch i taken s = .next t) (k : Nat) :
    runBranch i taken (moreCycles k s) = .next (moreCycles k t) := by
  rw [runBranch_eq i n hf] at h ⊢
  have hsame : taken (moreCycles k s) = taken s := htaken s _
  rw [hsame]
  split at h
  · exact (if_pos ‹_›).trans (retire_moreCycles i _ h k)
  · exact (if_neg ‹_›).trans (retire_moreCycles i _ h k)

theorem exec_moreCycles {i : Instr} {s t : State} (h : exec i s = .next t) (k : Nat) :
    exec i (moreCycles k s) = .next (moreCycles k t) := by
  obtain ⟨-, body, hb, hx⟩ | ⟨n, taken, hf, -, -, htaken, hx⟩ := exec_shape i
  · rw [hx] at h ⊢
    exact runBody_moreCycles i hb h k
  · rw [hx] at h ⊢
    exact runBranch_moreCycles i hf htaken h k

/-- Settles O56: the same bytes are fetched, and the instruction they select commutes with
`moreCycles`. -/
theorem nothingDependsOnTheCycleCount : Obligations.NothingDependsOnTheCycleCount := by
  intro s k
  show step (moreCycles k s) = _
  cases hd : decode (fetchBytes s) with
  | error e =>
    have hd' : decode (fetchBytes (moreCycles k s)) = .error e := hd
    rw [step, step, hd, hd']
    rfl
  | ok p =>
    obtain ⟨t, ht⟩ := exec_completes p.1 (bumpPc s)
    have hs : step s = .next t := (step_of_decode hd).trans ht
    rw [hs]
    exact (step_of_decode (s := moreCycles k s) hd).trans (exec_moreCycles ht k)

end Sys2Proof.Proofs
end

section
/-! PROOFS of the families 10_state, 20_memory and 70_reset_and_hazards: memory is determined by its
bytes (spec/10_state.md rule R41), and what the host's operations do and keep
(spec/70_reset_and_hazards.md rules R270, R280 to R283, spec/20_memory.md rule R57). -/

namespace Sys2Proof.Proofs

open Sys2Proof.Machine Sys2Proof.Rule

/-! ### Memory and its bytes -/

theorem hostReadByte_eq_get {k : Nat} (hk : k < 65536) (s : State) :
    hostReadByte k s = Memory.get s.mem k := by
  rw [hostReadByte, State.readByte, Memory.read, BitVec.toNat_ofNat, Nat.mod_eq_of_lt hk]

theorem mem_eq_of_cells {m n : Memory} (hm : Memory.wf m) (hn : Memory.wf n)
    (h : ∀ k < 65536, Memory.get m k = Memory.get n k) : m = n := by
  refine Memory.ext_of_get hm hn fun k => ?_
  by_cases hk : k < 65536
  · exact h k hk
  · have hout : Memory.size ≤ k := Nat.le_of_not_lt hk
    rw [Memory.get_of_size_le hm hout, Memory.get_of_size_le hn hout]

/-- Settles O11: the canonical form of a memory is determined by its 65,536 cells. -/
theorem equalBytesAreEqualMemory : Obligations.EqualBytesAreEqualMemory := by
  intro s t hs ht h
  have hmem : s.mem = t.mem := mem_eq_of_cells hs ht fun k hk => by
    rw [← hostReadByte_eq_get hk, ← hostReadByte_eq_get hk, hostReadByte, h, hostReadByte]
  rw [← hmem]

/-! ### Bulk transfers -/

theorem readCells_length (m : Memory) (start n : Nat) : (readCells m start n).length = n := by
  rw [readCells_eq, List.length_map, List.length_range]

theorem hostReadByte_hostWriteRange {s : State} (hm : Memory.wf s.mem) {start : Nat}
    {bytes : List Byte} (hin : start + bytes.length ≤ 65536) {k : Nat} (hk : k < 65536) :
    hostReadByte k { s with mem := writeCells s.mem start bytes } =
      if start ≤ k ∧ k < start + bytes.length then bytes.getD (k - start) 0#8
      else hostReadByte k s := by
  rw [hostReadByte_eq_get hk, hostReadByte_eq_get hk]
  exact get_writeCells hm hin k

theorem readCells_eq_hostReadByte (s : State) {start stop : Nat} (hle : start ≤ stop)
    (hin : stop ≤ 65536) :
    readCells s.mem start (stop - start) =
      (List.range (stop - start)).map fun k => hostReadByte (start + k) s := by
  rw [readCells_eq]
  refine List.map_congr_left fun k hk => (hostReadByte_eq_get ?_ s).symm
  have := List.mem_range.mp hk
  omega

/-- Settles O12: inside memory the cells are written and read one by one. -/
theorem bulkTransfersRefuseOutOfRange : Obligations.BulkTransfersRefuseOutOfRange := by
  refine fun s start stop bytes hm => ⟨fun hin => ?write, fun hout => if_neg hout,
    fun hle hin => ?read, fun hout => if_neg hout⟩
  case write =>
    exact ⟨_, if_pos hin, rfl, fun k hk => hostReadByte_hostWriteRange hm hin hk⟩
  case read =>
    rw [← readCells_eq_hostReadByte s hle hin]
    exact if_pos ⟨hle, hin⟩

/-! ### Register and flag accessors -/

theorem or_bit5_or_bit5 (v : Byte) : v ||| 0x20#8 ||| 0x20#8 = v ||| 0x20#8 := by
  rw [BitVec.or_assoc, BitVec.or_self]

theorem ofNat_or_bit5_toNat (v : Nat) : (BitVec.ofNat 8 v ||| 0x20#8).toNat = v % 256 ||| 32 := by
  rw [BitVec.toNat_or, BitVec.toNat_ofNat]
  rfl

theorem readSr_setSr (s : State) (v : Byte) : (s.setSr v).readSr = v ||| 0x20#8 :=
  or_bit5_or_bit5 v

theorem hostReadReg_hostWriteReg_ne {r q : Reg} (h : q ≠ r) (v : Nat) (s : State) :
    hostReadReg q (hostWriteReg r v s) = hostReadReg q s := by
  cases r with
  | pc => cases q with | pc => exact absurd rfl h | _ => rfl
  | sp => cases q with | sp => exact absurd rfl h | _ => rfl
  | sr => cases q with | sr => exact absurd rfl h | _ => rfl
  | x => cases q with | x => exact absurd rfl h | _ => rfl
  | y => cases q with | y => exact absurd rfl h | _ => rfl
  | a => cases q with | a => exact absurd rfl h | _ => rfl
  | cc => cases q with | cc => exact absurd rfl h | _ => rfl

/-- Settles O14: a cell takes the value modulo its width, and SR gives bit 5 beside it. -/
theorem registerAccessorsWrap : Obligations.RegisterAccessorsWrap := by
  refine fun s r q v => ⟨?value, fun h => hostReadReg_hostWriteReg_ne h v s, ?memory⟩
  case value =>
    cases r with
    | pc | sp | x | y | a => exact BitVec.toNat_ofNat _ _
    | sr =>
      rw [hostReadReg, hostWriteReg, readSr_setSr]
      exact ofNat_or_bit5_toNat v
    | cc => rfl
  case memory => cases r <;> rfl

theorem flag_unused (s : State) : s.flag .unused = true := by
  rw [State.flag, State.readSr_getLsbD]
  rfl

theorem onlyFlags_setFlag (s : State) (f : Flag) (on : Bool) :
    onlyFlags [f] s (s.setFlag f on) := by
  intro g hg
  have hne : g ≠ f := by simpa using hg
  cases g with
  | unused => rw [State.flag_setFlag, if_pos rfl, flag_unused]
  | _ => rw [State.flag_setFlag, if_neg (by decide), if_neg hne]

theorem hostReadFlag_setFlag (s : State) (f : Flag) (on : Bool) :
    hostReadFlag f (s.setFlag f on) = if f = .unused then 1 else on.toNat := by
  rw [hostReadFlag, State.flag_setFlag, if_pos rfl, apply_ite Bool.toNat]
  rfl

/-- Settles O15: 0 and 1 are the two values of a bit, and every other one is refused. -/
theorem flagAccessorsWriteOneBit : Obligations.FlagAccessorsWriteOneBit := by
  refine fun s f v => ⟨fun hv => ?written, fun hv => ?refused, ?bit⟩
  case written =>
    match v, hv with
    | 0, _ => exact ⟨_, rfl, hostReadFlag_setFlag s f false, onlyFlags_setFlag s f false, rfl⟩
    | 1, _ => exact ⟨_, rfl, hostReadFlag_setFlag s f true, onlyFlags_setFlag s f true, rfl⟩
  case refused => rw [hostWriteFlag, if_neg (by omega), if_neg (by omega)]
  case bit => exact Nat.toNat_testBit _ _

/-! ### Reset -/

/-- Settles O52: no byte is listed, and bit 5 of 0x30 is 1. -/
theorem resetMeetsTheInvariant : Obligations.ResetMeetsTheInvariant := ⟨Memory.wf_reset, rfl⟩

/-- Settles O53: reset forgets the state it is given. -/
theorem resetLeavesTheStatedValues : Obligations.ResetLeavesTheStatedValues := fun _ _ =>
  have hsr : hostReadReg .sr State.reset = 0x30 := by decide
  ⟨rfl, rfl, hsr, rfl, rfl, rfl, rfl, rfl, rfl⟩

/-! ### Images -/

theorem hostLoadImage_ok (cpu : CpuImage) {ram : List Nat} (h : ram.length = 65536) (u : State) :
    hostLoadImage cpu ram u = .next
      { pc := BitVec.ofNat 16 cpu.pc, sp := BitVec.ofNat 8 cpu.sp,
        sr := BitVec.ofNat 8 cpu.sr ||| 0x20#8, a := BitVec.ofNat 8 cpu.a,
        x := BitVec.ofNat 8 cpu.x, y := BitVec.ofNat 8 cpu.y, cc := cpu.cc,
        mem := writeCells [] 0 (ram.map (BitVec.ofNat 8)) } := if_pos h

theorem image_fits {ram : List Nat} (h : ram.length = 65536) :
    0 + (ram.map (BitVec.ofNat 8)).length ≤ Memory.size := by
  rw [List.length_map, h, Nat.zero_add, Memory.size]

theorem wf_image {ram : List Nat} (h : ram.length = 65536) :
    Memory.wf (writeCells [] 0 (ram.map (BitVec.ofNat 8))) :=
  wf_writeCells Memory.wf_nil (image_fits h)

theorem get_image {ram : List Nat} (h : ram.length = 65536) {k : Nat} (hk : k < 65536) :
    Memory.get (writeCells [] 0 (ram.map (BitVec.ofNat 8))) k = BitVec.ofNat 8 (ram.getD k 0) := by
  have hin : 0 ≤ k ∧ k < 0 + (ram.map (BitVec.ofNat 8)).length := by
    rw [List.length_map, h]; omega
  rw [get_writeCells Memory.wf_nil (image_fits h), if_pos hin, Nat.sub_zero]
  exact List.getD_map _ _ _

theorem hostSaveImage_ram_length (s : State) : (hostSaveImage s).2.length = 65536 := by
  rw [hostSaveImage, List.length_map, readCells_length, Memory.size]

theorem hostSaveImage_ram_getD (s : State) {k : Nat} (hk : k < 65536) :
    (hostSaveImage s).2.getD k 0 = (Memory.get s.mem k).toNat := by
  rw [List.getD_eq_getElem _ _ (hk.trans_eq (hostSaveImage_ram_length s).symm)]
  simp only [hostSaveImage, readCells_eq, List.getElem_map, List.getElem_range, Nat.zero_add]

/-- The memory of a saved image, loaded again, is the memory saved. -/
theorem image_of_saved {s : State} (h : Memory.wf s.mem) :
    writeCells [] 0 ((hostSaveImage s).2.map (BitVec.ofNat 8)) = s.mem := by
  have hlen := hostSaveImage_ram_length s
  refine mem_eq_of_cells (wf_image hlen) h fun k hk => ?_
  rw [get_image hlen hk, hostSaveImage_ram_getD s hk, BitVec.ofNat_toNat, BitVec.setWidth_eq]

theorem readSr_eq_sr {s : State} (h : s.sr.getLsbD 5 = true) : s.readSr = s.sr := by
  apply Byte.ext_of_getLsbD
  intro i _
  rw [State.readSr_getLsbD]
  split
  · subst i
    exact h.symm
  · rfl

/-- Settles O55: each cell comes back at its own width, and memory byte by byte. -/
theorem savedImageLoadsBack : Obligations.SavedImageLoadsBack := by
  refine fun s u cpu ram => ⟨fun hinv => ?back, fun h => if_neg h, fun h => ?loaded⟩
  case back =>
    obtain ⟨hm, h5⟩ := hinv
    have hsr : s.readSr ||| 0x20#8 = s.sr := (or_bit5_or_bit5 s.sr).trans (readSr_eq_sr h5)
    rw [hostLoadImage_ok _ (hostSaveImage_ram_length s), image_of_saved hm]
    simp only [hostSaveImage, BitVec.ofNat_toNat, BitVec.setWidth_eq, hsr]
  case loaded =>
    refine ⟨_, hostLoadImage_ok cpu h u, BitVec.toNat_ofNat _ _, BitVec.toNat_ofNat _ _,
      ofNat_or_bit5_toNat _, BitVec.toNat_ofNat _ _, BitVec.toNat_ofNat _ _, BitVec.toNat_ofNat _ _,
      rfl, fun k hk => ?_⟩
    rw [hostReadByte_eq_get hk, get_image h hk, BitVec.toNat_ofNat]

/-! ### The invariant -/

theorem hostStep_keeps_inv {s : State} (h : s.Inv) : (hostStep s).1.Inv := by
  by_cases hd : optab (s.readByte s.pc) = none
  · obtain ⟨p, -, hs⟩ := stateAfterUnknownOpcode_eq s
    rw [hostStep_of_undefined hd, hs]
    exact h
  · obtain ⟨t, ht⟩ := step_of_defined hd
    rw [hostStep_of_next ht]
    exact stepKeepsTheInvariant s t h ht

theorem hostWriteRange_keeps_inv {s t : State} {start : Nat} {bytes : List Byte} (h : s.Inv)
    (ht : hostWriteRange start bytes s = .next t) : t.Inv := by
  rw [hostWriteRange] at ht
  split at ht <;> cases ht
  exact ⟨wf_writeCells h.1 ‹_›, h.2⟩

theorem hostWriteFlag_keeps_inv {s t : State} {f : Flag} {v : Nat} (h : s.Inv)
    (ht : hostWriteFlag f v s = .next t) : t.Inv := by
  rw [hostWriteFlag] at ht
  split at ht
  · cases ht
    exact h.setFlag f false
  · split at ht <;> cases ht
    exact h.setFlag f true

/-- A loaded image meets the invariant, whatever it holds and whatever was there before. -/
theorem hostLoadImage_gives_inv {s t : State} {cpu : CpuImage} {ram : List Nat}
    (ht : hostLoadImage cpu ram s = .next t) : t.Inv := by
  rw [hostLoadImage] at ht
  split at ht <;> cases ht
  exact ⟨wf_image ‹_›, State.setSr_bit5 s _⟩

/-- Settles O54: every write goes through an operation that keeps the invariant. -/
theorem hostOperationsKeepTheInvariant : Obligations.HostOperationsKeepTheInvariant := by
  refine fun s a v bytes r f cpu ram h => ⟨h.writeByte _ _, ⟨Memory.wf_writeWord _ _ h.1, h.2⟩,
    ?register, resetMeetsTheInvariant, ?step, ?range, ?flag, ?image⟩
  case register =>
    cases r with
    | sr => exact h.setSr _
    | _ => exact h
  case step => exact hostStep_keeps_inv h
  case range => exact fun t => hostWriteRange_keeps_inv h
  case flag => exact fun t => hostWriteFlag_keeps_inv h
  case image => exact fun t => hostLoadImage_gives_inv

end Sys2Proof.Proofs
end

section
/-! PROOFS of the families 41_load_store to 46_compare_bit and 48_flags: the instructions that run a
body between the resolution of their mode and the rest of the driver (spec/41_load_store.md to
spec/48_flags.md). First what the flag writes of a body leave, then what the forms of each mnemonic
answer, then each result as a number. -/

namespace Sys2Proof.Proofs

open Sys2Proof.Machine Sys2Proof.Rule

/-! ### Flags -/

theorem onlyFlags_trans {fs gs : List Flag} {s t u : State} (hst : onlyFlags fs s t)
    (htu : onlyFlags gs t u) : onlyFlags (fs ++ gs) s u := by
  intro f hf
  rw [List.mem_append, not_or] at hf
  exact (htu f hf.2).trans (hst f hf.1)

theorem onlyFlags_of_sr {fs : List Flag} {s t u : State} (h : onlyFlags fs s t) (hu : u.sr = t.sr) :
    onlyFlags fs s u := fun f hf => (State.flag_congr hu f).trans (h f hf)

theorem nzFrom_of_sr {v : Byte} {t u : State} (h : nzFrom v t) (hu : u.sr = t.sr) : nzFrom v u :=
  ⟨(State.flag_congr hu _).trans h.1, (State.flag_congr hu _).trans h.2⟩

theorem flag_setFlag_same (s : State) {f : Flag} (hf : f ≠ .unused) (on : Bool) :
    (s.setFlag f on).flag f = on := by
  rw [State.flag_setFlag, if_neg hf, if_pos rfl]

/-- SR as `SetNZ` leaves it, whatever is done to the other cells. -/
theorem setsNZ_of_sr {s t : State} {v : Byte} (h : t.sr = (s.setNZ v).sr) :
    nzFrom v t ∧ onlyFlags [.zero, .negative] s t :=
  ⟨nzFrom_of_sr (nzFrom_setNZ s v) h, onlyFlags_of_sr (onlyFlags_setNZ s v) h⟩

/-- SR as a carry and then `SetNZ` leave it: the shifts and the compares. -/
theorem setsCarryNZ_of_sr {s t : State} {c : Bool} {v : Byte}
    (h : t.sr = ((s.setFlag .carry c).setNZ v).sr) :
    t.flag .carry = c ∧ nzFrom v t ∧ onlyFlags [.carry, .zero, .negative] s t := by
  obtain ⟨hnz, honly⟩ := setsNZ_of_sr h
  exact ⟨(honly .carry (by decide)).trans (flag_setFlag_same s (by decide) c), hnz,
    onlyFlags_trans (onlyFlags_setFlag s .carry c) honly⟩

/-- SR as a carry, an overflow and then `SetNZ` leave it: the adder. -/
theorem setsCarryOverflowNZ_of_sr {s t : State} {c o : Bool} {v : Byte}
    (h : t.sr = (((s.setFlag .carry c).setFlag .overflow o).setNZ v).sr) :
    t.flag .carry = c ∧ t.flag .overflow = o ∧ nzFrom v t ∧
      onlyFlags [.carry, .overflow, .zero, .negative] s t := by
  obtain ⟨hnz, honly⟩ := setsNZ_of_sr h
  have hv := onlyFlags_trans (onlyFlags_setFlag (s.setFlag .carry c) .overflow o) honly
  exact ⟨(hv .carry (by decide)).trans (flag_setFlag_same s (by decide) c),
    (honly .overflow (by decide)).trans (flag_setFlag_same _ (by decide) o), hnz,
    onlyFlags_trans (onlyFlags_setFlag s .carry c) hv⟩

/-! ### What the forms of a mnemonic answer -/

/-- `b` after steps 5 and 6 of the driver (spec/40_driver_and_modes.md rules R105, R106) for an
instruction run on `s`. -/
def retired (i : Instr) (s b : State) : State := { b with pc := pcAfter i s, cc := ccAfter i s }

/-- A value-consuming instruction answers `body` on the operand read. -/
def AnswersValue (body : Byte → State → State) (i : Instr) : Prop :=
  ∀ s, exec i s = .next (retired i s (body (operand i s) s))

/-- A store answers the byte `value` at the resolved address. -/
def AnswersStore (value : State → Byte) (i : Instr) : Prop :=
  ∀ s, ∃ a, (resolve i.form s).op = .addr a ∧
    exec i s = .next (retired i s (s.writeByte a (value s)))

/-- A modify instruction answers `result` of the operand read, written where it was read, and
`flags` after it. -/
def AnswersModify (result : Byte → State → Byte) (flags : Byte → Byte → State → State)
    (i : Instr) : Prop :=
  i.row.mnemonic.operandClass = .modify ∧
    ∀ s, exec i s = .next (retired i s (flags (operand i s) (result (operand i s) s)
      (writeOp (resolve i.form s).op (result (operand i s) s) s)))

section
variable {i : Instr}

theorem AnswersValue.of_runValue {body : Byte → State → State}
    (hx : ∀ s, exec i s = runValue i body s) (hc : i.row.mnemonic.pcControlling = false)
    (hpc : ∀ v s, (body v s).pc = s.pc) (hcc : ∀ v s, (body v s).cc = s.cc) :
    AnswersValue body i := by
  intro s
  rw [hx, runValue_eq i body s hc]
  simp only [hpc, hcc]
  rfl

theorem AnswersStore.of_runStore {value : State → Byte}
    (hx : ∀ s, exec i s = runStore i value s) (hc : i.row.mnemonic.pcControlling = false)
    (hop : ∀ s, ∃ a, (resolve i.form s).op = .addr a) : AnswersStore value i := by
  intro s
  obtain ⟨a, ha⟩ := hop s
  refine ⟨a, ha, ?_⟩
  rw [hx, runStore_eq i value s hc]
  simp only [ha]
  rfl

theorem writeOp_pc (op : Op) (v : Byte) (s : State) : (writeOp op v s).pc = s.pc := by
  cases op <;> rfl

theorem writeOp_cc (op : Op) (v : Byte) (s : State) : (writeOp op v s).cc = s.cc :=
  (writeOp_keeps op v s).1

theorem AnswersModify.of_runModify {result : Byte → State → Byte}
    {flags : Byte → Byte → State → State} (hx : ∀ s, exec i s = runModify i result flags s)
    (hc : i.row.mnemonic.pcControlling = false)
    (hm : i.row.mnemonic.operandClass = .modify)
    (hpc : ∀ v r s, (flags v r s).pc = s.pc) (hcc : ∀ v r s, (flags v r s).cc = s.cc) :
    AnswersModify result flags i := by
  refine ⟨hm, fun s => ?_⟩
  rw [hx, runModify_eq i result flags s hc]
  simp only [hpc, hcc, writeOp_pc, writeOp_cc]
  rfl

variable {n : Byte} {w : Word}

theorem ldaForms_answer (hi : i ∈ ldaForms n w) : AnswersValue ldaBody i := by
  fin_cases hi <;> exact .of_runValue (fun _ => rfl) rfl (fun _ _ => rfl) fun _ _ => rfl

theorem ldxForms_answer (hi : i ∈ ldxForms n w) : AnswersValue ldxBody i := by
  fin_cases hi <;> exact .of_runValue (fun _ => rfl) rfl (fun _ _ => rfl) fun _ _ => rfl

theorem ldyForms_answer (hi : i ∈ ldyForms n w) : AnswersValue ldyBody i := by
  fin_cases hi <;> exact .of_runValue (fun _ => rfl) rfl (fun _ _ => rfl) fun _ _ => rfl

theorem adcForms_answer (hi : i ∈ adcForms n w) : AnswersValue adcBody i := by
  fin_cases hi <;> exact .of_runValue (fun _ => rfl) rfl (fun _ _ => rfl) fun _ _ => rfl

theorem sbcForms_answer (hi : i ∈ sbcForms n w) : AnswersValue sbcBody i := by
  fin_cases hi <;> exact .of_runValue (fun _ => rfl) rfl (fun _ _ => rfl) fun _ _ => rfl

theorem andForms_answer (hi : i ∈ andForms n w) : AnswersValue andBody i := by
  fin_cases hi <;> exact .of_runValue (fun _ => rfl) rfl (fun _ _ => rfl) fun _ _ => rfl

theorem oraForms_answer (hi : i ∈ oraForms n w) : AnswersValue oraBody i := by
  fin_cases hi <;> exact .of_runValue (fun _ => rfl) rfl (fun _ _ => rfl) fun _ _ => rfl

theorem eorForms_answer (hi : i ∈ eorForms n w) : AnswersValue eorBody i := by
  fin_cases hi <;> exact .of_runValue (fun _ => rfl) rfl (fun _ _ => rfl) fun _ _ => rfl

theorem bitForms_answer (hi : i ∈ bitForms n w) : AnswersValue bitBody i := by
  fin_cases hi <;> exact .of_runValue (fun _ => rfl) rfl (fun _ _ => rfl) fun _ _ => rfl

theorem cmpForms_answer (hi : i ∈ cmpForms n w) : AnswersValue cmpBody i := by
  fin_cases hi <;> exact .of_runValue (fun _ => rfl) rfl (fun _ _ => rfl) fun _ _ => rfl

theorem cpxForms_answer (hi : i ∈ cpxForms n w) : AnswersValue cpxBody i := by
  fin_cases hi <;> exact .of_runValue (fun _ => rfl) rfl (fun _ _ => rfl) fun _ _ => rfl

theorem cpyForms_answer (hi : i ∈ cpyForms n w) : AnswersValue cpyBody i := by
  fin_cases hi <;> exact .of_runValue (fun _ => rfl) rfl (fun _ _ => rfl) fun _ _ => rfl

theorem staForms_answer (hi : i ∈ staForms n w) : AnswersStore staValue i := by
  fin_cases hi <;> exact .of_runStore (fun _ => rfl) rfl fun _ => ⟨_, rfl⟩

theorem stxForms_answer (hi : i ∈ stxForms n w) : AnswersStore stxValue i := by
  fin_cases hi <;> exact .of_runStore (fun _ => rfl) rfl fun _ => ⟨_, rfl⟩

theorem styForms_answer (hi : i ∈ styForms n w) : AnswersStore styValue i := by
  fin_cases hi <;> exact .of_runStore (fun _ => rfl) rfl fun _ => ⟨_, rfl⟩

theorem aslForms_answer (hi : i ∈ aslForms n w) : AnswersModify aslResult aslFlags i := by
  fin_cases hi <;>
    exact .of_runModify (fun _ => rfl) rfl rfl (fun _ _ _ => rfl) fun _ _ _ => rfl

theorem lsrForms_answer (hi : i ∈ lsrForms n w) : AnswersModify lsrResult lsrFlags i := by
  fin_cases hi <;>
    exact .of_runModify (fun _ => rfl) rfl rfl (fun _ _ _ => rfl) fun _ _ _ => rfl

theorem rolForms_answer (hi : i ∈ rolForms n w) : AnswersModify rolResult rolFlags i := by
  fin_cases hi <;>
    exact .of_runModify (fun _ => rfl) rfl rfl (fun _ _ _ => rfl) fun _ _ _ => rfl

theorem rorForms_answer (hi : i ∈ rorForms n w) : AnswersModify rorResult rorFlags i := by
  fin_cases hi <;>
    exact .of_runModify (fun _ => rfl) rfl rfl (fun _ _ _ => rfl) fun _ _ _ => rfl

theorem incForms_answer (hi : i ∈ incForms n w) : AnswersModify incResult incFlags i := by
  fin_cases hi <;>
    exact .of_runModify (fun _ => rfl) rfl rfl (fun _ _ _ => rfl) fun _ _ _ => rfl

theorem decForms_answer (hi : i ∈ decForms n w) : AnswersModify decResult decFlags i := by
  fin_cases hi <;>
    exact .of_runModify (fun _ => rfl) rfl rfl (fun _ _ _ => rfl) fun _ _ _ => rfl

end

/-- An instruction without operand answers its body, PC being where the body leaves it. -/
theorem exec_implied {i : Instr} (body : State → State) (hx : ∀ s, exec i s = runImplied i body s)
    (hf : i.form = .implied) (hl : i.row.length = 1) (s : State) :
    exec i s = .next { body s with cc := (body s).cc + i.row.base } :=
  (hx s).trans (runImplied_eq i body s hf hl)

/-! ### Loads, stores, logic and transfers -/

/-- Settles O21: the register takes the operand, and `SetNZ` is on the operand. -/
theorem loadsFillTheRegister : Obligations.LoadsFillTheRegister :=
  ⟨⟨fun _ _ => rfl, fun _ _ s _ hi => ⟨_, ldaForms_answer hi s, rfl, setsNZ_of_sr rfl⟩⟩,
    ⟨fun _ _ => rfl, fun _ _ s _ hi => ⟨_, ldxForms_answer hi s, rfl, setsNZ_of_sr rfl⟩⟩,
    ⟨fun _ _ => rfl, fun _ _ s _ hi => ⟨_, ldyForms_answer hi s, rfl, setsNZ_of_sr rfl⟩⟩⟩

/-- Settles O22: one byte is written where the mode resolves. -/
theorem storesWriteTheRegister : Obligations.StoresWriteTheRegister :=
  ⟨⟨fun _ _ => rfl, fun _ _ s _ hi => staForms_answer hi s⟩,
    ⟨fun _ _ => rfl, fun _ _ s _ hi => stxForms_answer hi s⟩,
    ⟨fun _ _ => rfl, fun _ _ s _ hi => styForms_answer hi s⟩⟩

/-- Settles O25: A takes the combination, and `SetNZ` is on it. -/
theorem logicCombinesBitwise : Obligations.LogicCombinesBitwise :=
  ⟨⟨fun _ _ => rfl, fun _ _ s _ hi => ⟨_, andForms_answer hi s, rfl, setsNZ_of_sr rfl⟩⟩,
    ⟨fun _ _ => rfl, fun _ _ s _ hi => ⟨_, oraForms_answer hi s, rfl, setsNZ_of_sr rfl⟩⟩,
    ⟨fun _ _ => rfl, fun _ _ s _ hi => ⟨_, eorForms_answer hi s, rfl, setsNZ_of_sr rfl⟩⟩⟩

/-- Settles O28: the destination takes the source, and `SetNZ` is on it but for TXS. -/
theorem transfersCopyARegister : Obligations.TransfersCopyARegister :=
  ⟨fun _ _ s => ⟨rfl, _, exec_implied taxBody (fun _ => rfl) rfl rfl s, rfl, setsNZ_of_sr rfl⟩,
    fun _ _ s => ⟨rfl, _, exec_implied tayBody (fun _ => rfl) rfl rfl s, rfl, setsNZ_of_sr rfl⟩,
    fun _ _ s => ⟨rfl, _, exec_implied txaBody (fun _ => rfl) rfl rfl s, rfl, setsNZ_of_sr rfl⟩,
    fun _ _ s => ⟨rfl, _, exec_implied tyaBody (fun _ => rfl) rfl rfl s, rfl, setsNZ_of_sr rfl⟩,
    fun _ _ s => ⟨rfl, _, exec_implied tsxBody (fun _ => rfl) rfl rfl s, rfl, setsNZ_of_sr rfl⟩,
    fun _ _ s => ⟨rfl, exec_implied txsBody (fun _ => rfl) rfl rfl s⟩⟩

/-! ### Flag instructions -/

theorem setsFlag_of_sr {s t : State} {f : Flag} (hf : f ≠ .unused) {on : Bool}
    (h : t.sr = (s.setFlag f on).sr) : t.flag f = on ∧ onlyFlags [f] s t :=
  ⟨(State.flag_congr h f).trans (flag_setFlag_same s hf on),
    onlyFlags_of_sr (onlyFlags_setFlag s f on) h⟩

/-- Settles O33: each body is one flag write. -/
theorem flagInstructionsWriteOneFlag : Obligations.FlagInstructionsWriteOneFlag := fun _ _ s =>
  ⟨⟨rfl, _, exec_implied clcBody (fun _ => rfl) rfl rfl s, rfl, setsFlag_of_sr (by decide) rfl⟩,
    ⟨rfl, _, exec_implied secBody (fun _ => rfl) rfl rfl s, rfl, setsFlag_of_sr (by decide) rfl⟩,
    ⟨rfl, _, exec_implied cldBody (fun _ => rfl) rfl rfl s, rfl, setsFlag_of_sr (by decide) rfl⟩,
    ⟨rfl, _, exec_implied sedBody (fun _ => rfl) rfl rfl s, rfl, setsFlag_of_sr (by decide) rfl⟩,
    ⟨rfl, _, exec_implied cliBody (fun _ => rfl) rfl rfl s, rfl, setsFlag_of_sr (by decide) rfl⟩,
    ⟨rfl, _, exec_implied seiBody (fun _ => rfl) rfl rfl s, rfl, setsFlag_of_sr (by decide) rfl⟩,
    ⟨rfl, _, exec_implied clvBody (fun _ => rfl) rfl rfl s, rfl, setsFlag_of_sr (by decide) rfl⟩⟩

/-! ### Compares and BIT -/

/-- What a compare answers, of whichever register (spec/46_compare_bit.md rule R191). -/
theorem compare_flags {s t : State} {reg v : Byte} (h : t.sr = (compare reg v s).sr) :
    t.flag .carry = decide (v.toNat ≤ reg.toNat) ∧ t.flag .zero = decide (reg = v) ∧
      t.flag .negative = decide (128 ≤ (reg.toNat + 256 - v.toNat) % 256) ∧
      onlyFlags [.carry, .zero, .negative] s t := by
  obtain ⟨hc, ⟨hz, hn⟩, honly⟩ := setsCarryNZ_of_sr h
  have hv := v.isLt
  have hr := reg.isLt
  have hdiff : (reg - v).toNat = (reg.toNat + 256 - v.toNat) % 256 := by
    rw [BitVec.toNat_sub]; omega
  rw [hdiff] at hz hn
  refine ⟨hc, hz.trans (decide_eq_decide.mpr ?_), hn, honly⟩
  rw [BitVec.toNat_eq]
  omega

/-- Settles O30: the three compare a register with the operand in one way. -/
theorem comparesWriteFlagsOnly : Obligations.ComparesWriteFlagsOnly :=
  ⟨⟨fun _ _ => rfl, fun _ _ s _ hi => ⟨_, cmpForms_answer hi s, rfl, compare_flags rfl⟩⟩,
    ⟨fun _ _ => rfl, fun _ _ s _ hi => ⟨_, cpxForms_answer hi s, rfl, compare_flags rfl⟩⟩,
    ⟨fun _ _ => rfl, fun _ _ s _ hi => ⟨_, cpyForms_answer hi s, rfl, compare_flags rfl⟩⟩⟩

theorem byte_getLsbD_six (v : Byte) : v.getLsbD 6 = decide (64 ≤ v.toNat % 128) := by
  rw [BitVec.getLsbD, Nat.testBit_eq_decide_div_mod_eq, decide_eq_decide]
  omega

theorem byte_and_eq_zero_iff (a v : Byte) :
    a &&& v = 0#8 ↔ ∀ k < 8, ¬ (a.getLsbD k = true ∧ v.getLsbD k = true) := by
  refine ⟨fun h k _ hk => ?_, fun h => Byte.ext_of_getLsbD fun k hk => ?_⟩
  · have := congrArg (BitVec.getLsbD · k) h
    simp [BitVec.getLsbD_and, hk.1, hk.2] at this
  · have := h k hk
    rw [BitVec.getLsbD_and, BitVec.getLsbD_zero]
    rwa [← Bool.and_eq_true, Bool.not_eq_true] at this

theorem bitBody_flags {s t : State} {v : Byte} (h : t.sr = (bitBody v s).sr) :
    t.flag .zero = (s.a &&& v == 0#8) ∧ t.flag .negative = v.getLsbD 7 ∧
      t.flag .overflow = v.getLsbD 6 ∧ onlyFlags [.zero, .negative, .overflow] s t := by
  obtain ⟨hv, honly⟩ := setsFlag_of_sr (by decide) h
  have hn := onlyFlags_trans (onlyFlags_setFlag (s.setFlag .zero (s.a &&& v == 0#8)) .negative
    (v.getLsbD 7)) honly
  exact ⟨(hn .zero (by decide)).trans (flag_setFlag_same s (by decide) _),
    (honly .negative (by decide)).trans (flag_setFlag_same _ (by decide) _), hv,
    onlyFlags_trans (onlyFlags_setFlag s .zero _) hn⟩

/-- Settles O29: Z is of the conjunction with A, N and V are bits of the operand. -/
theorem bitTestsTheOperand : Obligations.BitTestsTheOperand := by
  refine ⟨fun _ _ => rfl, fun n w s i hi => ⟨_, bitForms_answer hi s, rfl, ?_⟩⟩
  obtain ⟨hz, hn, hv, honly⟩ := bitBody_flags (t := retired i s (bitBody (operand i s) s)) rfl
  refine ⟨?_, hn.trans (Byte.getLsbD_seven _), hv.trans (byte_getLsbD_six _), honly⟩
  rw [hz, beq_iff_eq, byte_and_eq_zero_iff]

/-! ### The adder -/

theorem carryNat_eq_carryIn (s : State) : s.carryNat = carryIn s := by
  rw [State.carryNat, carryIn]
  cases s.flag .carry <;> rfl

theorem carryIn_le (s : State) : carryIn s ≤ 1 := by
  rw [carryIn]
  split <;> omega

theorem adcBody_a_toNat (v : Byte) (s : State) :
    (adcBody v s).a.toNat = (s.a.toNat + v.toNat + carryIn s) % 256 := by
  rw [← carryNat_eq_carryIn]
  exact BitVec.toNat_ofNat _ _

theorem byte_and_bit7_ne_zero (v : Byte) : (v &&& 0x80#8 != 0#8) = v.getLsbD 7 := by
  rw [show 0x80#8 = BitVec.twoPow 8 7 from rfl, BitVec.and_twoPow]
  cases v.getLsbD 7 <;> rfl

theorem byte_toInt_eq (v : Byte) :
    v.toInt = if 128 ≤ v.toNat then (v.toNat : Int) - 256 else v.toNat := by
  rw [BitVec.toInt_eq_toNat_cond]
  split <;> split <;> omega

/-- The two forms of the overflow of rule R150: the operands agree in bit 7 and the sum does not,
and the two's-complement sum is out of range. -/
theorem adderOverflow_eq (a v : Byte) {c : Nat} (hc : c ≤ 1) :
    adderOverflow a v (adderSum a v c) =
      decide (a.toInt + v.toInt + c < -128 ∨ 127 < a.toInt + v.toInt + c) := by
  have ha := a.isLt
  have hv := v.isLt
  rw [adderOverflow, byte_and_bit7_ne_zero, BitVec.getLsbD_and, BitVec.getLsbD_xor,
    BitVec.getLsbD_xor, Byte.getLsbD_seven, Byte.getLsbD_seven, Byte.getLsbD_seven,
    BitVec.toNat_ofNat, adderSum, byte_toInt_eq, byte_toInt_eq, Bool.eq_iff_iff]
  simp only [Bool.and_eq_true, Bool.xor_iff_ne, ne_eq, decide_eq_decide, decide_eq_true_eq]
  split <;> split <;> omega

/-- SR as ADC leaves it: A is written between the flag writes, and does not touch it. -/
theorem adcBody_sr (v : Byte) (s : State) :
    (adcBody v s).sr =
      (((s.setFlag .carry (adderCarry (adderSum s.a v s.carryNat))).setFlag .overflow
        (adderOverflow s.a v (adderSum s.a v s.carryNat))).setNZ (adcBody v s).a).sr := rfl

/-- The flags of ADC (spec/42_arith_logic.md rule R150), V in both its forms. -/
theorem adcBody_flags {s t : State} {v : Byte} (h : t.sr = (adcBody v s).sr) :
    t.flag .carry = decide (0xFF < s.a.toNat + v.toNat + carryIn s) ∧
      t.flag .overflow = ((s.a ^^^ (adcBody v s).a) &&& (v ^^^ (adcBody v s).a) &&& 0x80#8 != 0#8) ∧
      t.flag .overflow =
        decide (s.a.toInt + v.toInt + carryIn s < -128 ∨ 127 < s.a.toInt + v.toInt + carryIn s) ∧
      nzFrom (adcBody v s).a t ∧ onlyFlags [.carry, .overflow, .zero, .negative] s t := by
  obtain ⟨hc, ho, hnz, honly⟩ := setsCarryOverflowNZ_of_sr (h.trans (adcBody_sr v s))
  have hsigned := adderOverflow_eq s.a v (carryIn_le s)
  rw [← carryNat_eq_carryIn] at hsigned ⊢
  exact ⟨hc, ho, ho.trans hsigned, hnz, honly⟩

/-- Settles O23: A takes the sum modulo 256, and both forms of V describe it. -/
theorem adcAddsWithCarry : Obligations.AdcAddsWithCarry :=
  ⟨fun _ _ => rfl, fun _ _ s i hi => ⟨_, adcForms_answer hi s, rfl,
    adcBody_a_toNat (operand i s) s, adcBody_flags (v := operand i s) rfl⟩⟩

theorem xor_ones_toInt (v : Byte) : (v ^^^ 0xFF#8).toInt = -1 - v.toInt := by
  have hv := v.isLt
  rw [byte_toInt_eq, byte_toInt_eq, xor_ones_toNat]
  split <;> split <;> omega

/-- Settles O24: SBC is ADC on the operand with every bit inverted. -/
theorem sbcSubtractsWithBorrow : Obligations.SbcSubtractsWithBorrow := by
  refine ⟨fun _ _ => rfl, fun n w s i hi => ⟨_, sbcForms_answer hi s, rfl, ?_⟩⟩
  have hle := carryIn_le s
  have hv := (operand i s).isLt
  have ha := adcBody_a_toNat (operand i s ^^^ 0xFF#8) s
  obtain ⟨hc, -, ho, hnz, honly⟩ :=
    adcBody_flags (t := retired i s (sbcBody (operand i s) s)) rfl
  rw [xor_ones_toNat] at ha hc
  rw [xor_ones_toInt] at ho
  refine ⟨?diff, hc.trans (decide_eq_decide.mpr ?carry), ho.trans (decide_eq_decide.mpr ?overflow),
    hnz, honly⟩
  case diff =>
    have hres : (retired i s (sbcBody (operand i s) s)).a.toNat = _ := ha
    rw [hres]
    omega
  case carry => omega
  case overflow => omega

theorem index_ne_decimal {f : Flag} (h : f ≠ .decimal) : f.index.val ≠ Flag.decimal.index.val := by
  cases f with
  | decimal => exact absurd rfl h
  | _ => decide

/-- A write of D and a write of another flag may be exchanged. -/
theorem setFlag_decimal_comm (s : State) {f : Flag} (h : f ≠ .decimal) (on d : Bool) :
    (s.setFlag .decimal d).setFlag f on = (s.setFlag f on).setFlag .decimal d := by
  have hne := index_ne_decimal h
  have hsr : ((s.setFlag .decimal d).setFlag f on).sr =
      ((s.setFlag f on).setFlag .decimal d).sr := by
    apply Byte.ext_of_getLsbD
    intro k _
    simp only [State.setFlag_getLsbD]
    grind
  exact congrArg (fun r => { s with sr := r }) hsr

theorem adcBody_setFlag_decimal (v : Byte) (s : State) (d : Bool) :
    adcBody v (s.setFlag .decimal d) = (adcBody v s).setFlag .decimal d := by
  have hc : (s.setFlag .decimal d).carryNat = s.carryNat :=
    congrArg Bool.toNat (onlyFlags_setFlag s .decimal d .carry (by decide))
  have hA : ∀ (t : State) r, (t.setFlag .decimal d).setA r = (t.setA r).setFlag .decimal d :=
    fun _ _ => rfl
  simp only [adcBody, State.setNZ, hc, State.setFlag_a, hA,
    setFlag_decimal_comm _ (show Flag.carry ≠ .decimal by decide),
    setFlag_decimal_comm _ (show Flag.overflow ≠ .decimal by decide),
    setFlag_decimal_comm _ (show Flag.zero ≠ .decimal by decide),
    setFlag_decimal_comm _ (show Flag.negative ≠ .decimal by decide)]

theorem operand_setFlag (i : Instr) (s : State) (f : Flag) (on : Bool) :
    operand i (s.setFlag f on) = operand i s := by
  rw [operand, operand, resolve_congr i.form (s := s.setFlag f on) (t := s) rfl rfl rfl rfl]
  cases (resolve i.form s).op <;> rfl

/-- A body that commutes with a write of D gives an instruction that does. -/
theorem answersValue_setFlag_decimal {body : Byte → State → State} {i : Instr} {d : Bool}
    (h : AnswersValue body i)
    (hb : ∀ v s, body v (s.setFlag .decimal d) = (body v s).setFlag .decimal d) (s : State) :
    ∃ t, exec i s = .next t ∧ exec i (s.setFlag .decimal d) = .next (t.setFlag .decimal d) := by
  refine ⟨_, h s, (h _).trans ?_⟩
  rw [operand_setFlag, hb]
  rfl

/-- Settles O57: no body of the two reads D, and none writes it. -/
theorem decimalFlagHasNoEffect : Obligations.DecimalFlagHasNoEffect := by
  intro n w s d i hi
  rcases List.mem_append.mp hi with hadc | hsbc
  · exact answersValue_setFlag_decimal (adcForms_answer hadc)
      (fun v t => adcBody_setFlag_decimal v t d) s
  · exact answersValue_setFlag_decimal (sbcForms_answer hsbc)
      (fun v t => adcBody_setFlag_decimal _ t d) s

/-! ### Shifts, increments and decrements -/

theorem form_of_modify {i : Instr} (hc : i.row.mnemonic.operandClass = .modify) :
    i.form.mode ≠ .implied ∧ i.form.mode ≠ .immediate := by
  have h := row_wellFormed i
  rw [OpRow.wellFormed, Bool.and_eq_true_iff] at h
  rw [form_mode_eq_row_mode]
  constructor <;> intro hm <;> simp [OpRow.modeOk, hm, hc] at h

/-- A modify mnemonic reads A in mode accumulator, a byte of memory in every other mode it has. -/
theorem readsOperand_of_modify {i : Instr} (hc : i.row.mnemonic.operandClass = .modify)
    (s : State) : readsOperand i s (operand i s) := by
  obtain ⟨himp, himm⟩ := form_of_modify hc
  rw [readsOperand, operand, ← form_mode_eq_row_mode]
  cases hf : i.form with
  | implied => exact absurd (congrArg Form.mode hf) himp
  | immediate => exact absurd (congrArg Form.mode hf) himm
  | accumulator => exact ⟨rfl, rfl⟩
  | _ => exact ⟨Mode.noConfusion, rfl⟩

/-- A result written through the operand, and SR beside it. -/
theorem modified_retired {i : Instr} {s b : State} {r : Byte}
    (hop : readsOperand i s (operand i s))
    (hb : b = { writeOp (resolve i.form s).op r s with sr := b.sr }) :
    modified i s r (retired i s b) := by
  rw [readsOperand] at hop
  rw [modified]
  cases h : (resolve i.form s).op with
  | acc | addr =>
    rw [h] at hb
    rw [hb]
    rfl
  | none | imm => rw [h] at hop; exact hop

section
variable {result : Byte → State → Byte} {flags : Byte → Byte → State → State} {i : Instr}

/-- A modify instruction whose flag writes do not touch the cell it wrote. -/
theorem answersModify_modified (h : AnswersModify result flags i)
    (hflags : ∀ op v r s, flags v r (writeOp op r s) =
      { writeOp op r s with sr := (flags v r s).sr }) (s : State) :
    ∃ t, exec i s = .next t ∧ modified i s (result (operand i s) s) t ∧
      t.sr = (flags (operand i s) (result (operand i s) s) s).sr := by
  have hx := h.2 s
  rw [hflags] at hx
  exact ⟨_, hx, modified_retired (readsOperand_of_modify h.1 s) rfl, rfl⟩

/-- What a shift answers, from its result and the bit it shifts out. -/
theorem answersModify_shift (h : AnswersModify result flags i) {out : Byte → Bool}
    (hflags : ∀ v r, flags v r = shiftFlags (out v) r) (s : State) {m : Nat} {c : Bool}
    (hr : (result (operand i s) s).toNat = m) (hc : out (operand i s) = c) :
    readsOperand i s (operand i s) ∧ ∃ t r, exec i s = .next t ∧ modified i s r t ∧ r.toNat = m ∧
      t.flag .carry = c ∧ nzFrom r t ∧ onlyFlags [.carry, .zero, .negative] s t := by
  obtain ⟨t, hx, hmod, hsr⟩ := answersModify_modified h
    (fun op v r u => by rw [hflags]; cases op <;> rfl) s
  rw [hflags, hc] at hsr
  exact ⟨readsOperand_of_modify h.1 s, t, _, hx, hmod, hr, setsCarryNZ_of_sr hsr⟩

/-- What an increment or a decrement of memory answers, from its result. -/
theorem answersModify_setNZ (h : AnswersModify result flags i)
    (hflags : ∀ v r t, flags v r t = t.setNZ r) (s : State) {m : Nat}
    (hr : (result (operand i s) s).toNat = m) :
    ∃ t r, exec i s = .next t ∧ modified i s r t ∧ r.toNat = m ∧ nzFrom r t ∧
      onlyFlags [.zero, .negative] s t := by
  obtain ⟨t, hx, hmod, hsr⟩ := answersModify_modified h
    (fun op v r u => by rw [hflags, hflags]; cases op <;> rfl) s
  rw [hflags] at hsr
  exact ⟨t, _, hx, hmod, hr, setsNZ_of_sr hsr⟩

end

theorem shiftLeft_toNat (v : Byte) : (shiftLeft v).toNat = 2 * v.toNat % 256 := by
  rw [shiftLeft, BitVec.toNat_shiftLeft, Nat.shiftLeft_eq]
  omega

theorem shiftRight_toNat (v : Byte) : (shiftRight v).toNat = v.toNat / 2 := by
  rw [shiftRight, BitVec.toNat_ushiftRight, Nat.shiftRight_eq_div_pow]

/-- The bit that comes in finds its place empty, so setting it is adding it. -/
theorem byte_or_twoPow_toNat {v : Byte} {k : Nat} (h : v.getLsbD k = false) :
    (v ||| BitVec.twoPow 8 k).toNat = (v.toNat + 2 ^ k % 256) % 256 := by
  have hfree : v &&& BitVec.twoPow 8 k = 0#8 := by rw [BitVec.and_twoPow, h]; rfl
  rw [← BitVec.add_eq_or_of_and_eq_zero v _ hfree, Byte.add_toNat, BitVec.toNat_twoPow]

theorem rotateLeft_toNat (v : Byte) (s : State) :
    (rotateLeft v (s.flag .carry)).toNat = (2 * v.toNat + carryIn s) % 256 := by
  have hfree : (shiftLeft v).getLsbD 0 = false := by simp [shiftLeft]
  have hset := byte_or_twoPow_toNat hfree
  rw [shiftLeft_toNat] at hset
  rw [carryIn]
  cases s.flag .carry with
  | false => exact (congrArg BitVec.toNat BitVec.or_zero).trans (shiftLeft_toNat v)
  | true =>
    rw [if_pos rfl]
    exact hset.trans (by omega)

theorem rotateRight_toNat (v : Byte) (s : State) :
    (rotateRight v (s.flag .carry)).toNat = v.toNat / 2 + 128 * carryIn s := by
  have hv := v.isLt
  have hfree : (shiftRight v).getLsbD 7 = false := by simp [shiftRight]
  have hset := byte_or_twoPow_toNat hfree
  rw [shiftRight_toNat] at hset
  rw [carryIn]
  cases s.flag .carry with
  | false => exact (congrArg BitVec.toNat BitVec.or_zero).trans (shiftRight_toNat v)
  | true =>
    rw [if_pos rfl]
    exact hset.trans (by omega)

/-- Settles O26: the four differ in the bit shifted in and the bit shifted out. -/
theorem shiftsMoveOneBitThroughCarry : Obligations.ShiftsMoveOneBitThroughCarry :=
  ⟨⟨fun _ _ => rfl, fun _ _ s _ hi => answersModify_shift (aslForms_answer hi) (fun _ _ => rfl) s
      (shiftLeft_toNat _) (Byte.getLsbD_seven _)⟩,
    ⟨fun _ _ => rfl, fun _ _ s _ hi => answersModify_shift (lsrForms_answer hi) (fun _ _ => rfl) s
      (shiftRight_toNat _) (Byte.getLsbD_zero _)⟩,
    ⟨fun _ _ => rfl, fun _ _ s _ hi => answersModify_shift (rolForms_answer hi) (fun _ _ => rfl) s
      (rotateLeft_toNat _ s) (Byte.getLsbD_seven _)⟩,
    ⟨fun _ _ => rfl, fun _ _ s _ hi => answersModify_shift (rorForms_answer hi) (fun _ _ => rfl) s
      (rotateRight_toNat _ s) (Byte.getLsbD_zero _)⟩⟩

/-- Settles O27: one more or one less in a byte, of memory or of an index register. -/
theorem incrementsAndDecrementsWrap : Obligations.IncrementsAndDecrementsWrap :=
  ⟨⟨fun _ _ => rfl, fun _ _ s _ hi => answersModify_setNZ (incForms_answer hi) (fun _ _ _ => rfl) s
      (byte_add_one_toNat _)⟩,
    ⟨fun _ _ => rfl, fun _ _ s _ hi => answersModify_setNZ (decForms_answer hi) (fun _ _ _ => rfl) s
      (Byte.sub_one_toNat _)⟩,
    fun _ _ s => ⟨rfl, _, _, exec_implied inxBody (fun _ => rfl) rfl rfl s, rfl,
      byte_add_one_toNat s.x, setsNZ_of_sr rfl⟩,
    fun _ _ s => ⟨rfl, _, _, exec_implied inyBody (fun _ => rfl) rfl rfl s, rfl,
      byte_add_one_toNat s.y, setsNZ_of_sr rfl⟩,
    fun _ _ s => ⟨rfl, _, _, exec_implied dexBody (fun _ => rfl) rfl rfl s, rfl,
      Byte.sub_one_toNat s.x, setsNZ_of_sr rfl⟩,
    fun _ _ s => ⟨rfl, _, _, exec_implied deyBody (fun _ => rfl) rfl rfl s, rfl,
      Byte.sub_one_toNat s.y, setsNZ_of_sr rfl⟩⟩

end Sys2Proof.Proofs
end

section
/-! PROOFS of the families 49_jump_stack_system and 60_exceptions: jumps, subroutines, the stack
instructions, and the trap with its return (spec/49_jump_stack_system.md rules R220 to R229,
spec/60_exceptions.md rules R245 to R248). -/

namespace Sys2Proof.Proofs

open Sys2Proof.Machine Sys2Proof.Rule

/-! ### Stack slots and the pushed status byte -/

theorem sub_one_sub_one (p : Byte) : p - 1 - 1 = p - 2 := by bv_omega

theorem sub_two_sub_one (p : Byte) : p - 2 - 1 = p - 3 := by bv_omega

theorem sub_two_add_two (p : Byte) : p - 1 - 1 + 2 = p := by bv_omega

theorem add_one_add_one (p : Byte) : p + 1 + 1 = p + 2 := BitVec.add_assoc p 1 1

theorem add_two_add_one (p : Byte) : p + 2 + 1 = p + 3 := BitVec.add_assoc p 2 1

/-- The vector and everything else from 0x0200 upward is outside the stack page. -/
theorem ne_stackAddr {a : Word} (h : 512 ≤ a.toNat) (p : Byte) : a ≠ stackAddr p := by
  have hp := p.isLt
  intro e
  rw [e, stackAddr_toNat] at h
  omega

theorem readSr_or_break (s : State) : s.readSr ||| 0x10#8 = s.readSr ||| 0x30#8 := by
  rw [State.readSr, BitVec.or_assoc, BitVec.or_assoc]
  rfl

/-- SR as BRK and PHP push it has bit 4 at 1. -/
theorem pushedSr_break (s : State) : (s.readSr ||| 0x30#8).getLsbD 4 = true :=
  BitVec.getLsbD_or.trans (Bool.or_true _)

theorem pushedSr_unused (s : State) : (s.readSr ||| 0x30#8).getLsbD 5 = true :=
  BitVec.getLsbD_or.trans (Bool.or_true _)

theorem pushedSr_flag (s : State) {f : Flag} (hb : f ≠ .brk) (hu : f ≠ .unused) :
    (s.readSr ||| 0x30#8).getLsbD f.index.val = s.flag f := by
  cases f with
  | brk => exact absurd rfl hb
  | unused => exact absurd rfl hu
  | _ => exact BitVec.getLsbD_or.trans (Bool.or_false _)

/-! ### Jumps and subroutines -/

/-- Settles O36: the jump target is the address the mode resolves to. -/
theorem jmpSetsPc : Obligations.JmpSetsPc := by
  refine ⟨fun _ _ => rfl, fun w s => ⟨?absolute, ?indirect⟩⟩
  case absolute => exact runAddress_eq (.jmpAbsolute w) jmpBody s w rfl rfl
  case indirect =>
    rw [hostReadWord_toNat_true]
    exact runAddress_eq (.jmpIndirect w) jmpBody s _ rfl rfl

theorem exec_jsr (w : Word) (s : State) :
    exec (.jsrAbsolute w) s = .next
      { s.pushWord (s.pc + 1) with pc := w, cc := s.cc + (Instr.jsrAbsolute w).row.base } :=
  runAddress_eq (.jsrAbsolute w) jsrBody s w rfl rfl

/-- Settles O37: `PushWord` of the address of the last operand byte, then the jump. -/
theorem jsrPushesTheReturnAddress : Obligations.JsrPushesTheReturnAddress := by
  refine ⟨fun _ _ => rfl, fun w s => ⟨?_, rfl⟩⟩
  rw [exec_jsr, State.pushWord_eq, sub_one_sub_one]

theorem exec_rts (s : State) :
    exec .rts s = .next { s with
      pc := Word.ofBytes (s.readByte (stackAddr (s.sp + 2)))
        (s.readByte (stackAddr (s.sp + 1))) + 1,
      sp := s.sp + 2, cc := s.cc + Instr.rts.row.base } := by
  rw [← add_one_add_one]
  exact exec_implied rtsBody (fun _ => rfl) rfl rfl s

/-- Settles O38: the word popped, plus one. -/
theorem rtsReturnsPastTheJump : Obligations.RtsReturnsPastTheJump := by
  refine fun _ _ s => ⟨rfl, rfl, _, exec_rts s, rfl, ?_⟩
  rw [Word.add_toNat, Word.ofBytes_toNat]
  rfl

/-- Settles O43: the two slots that RTS reads are those that JSR wrote. -/
theorem jsrThenRtsResumes : Obligations.JsrThenRtsResumes := by
  intro w s t h hm hx hsp hslots
  obtain rfl := Host.Outcome.next.inj ((exec_jsr w s).symm.trans hx)
  have hsp2 : h.sp + 2 = s.sp := by rw [hsp]; exact sub_two_add_two s.sp
  have hsp1 : h.sp + 1 = s.sp - 1 := by rw [hsp]; exact Byte.sub_add_one (s.sp - 1)
  have hhigh : h.readByte (stackAddr s.sp) = (s.pc + 1).hi :=
    (hslots _ (by simp)).trans (readByte_pushWord_high _ hm)
  have hlow : h.readByte (stackAddr (s.sp - 1)) = (s.pc + 1).lo :=
    (hslots _ (by simp)).trans (readByte_pushWord_low _ hm)
  refine ⟨_, exec_rts h, hsp2, ?_, rfl, rfl, rfl, rfl, rfl⟩
  rw [hsp2, hsp1, hhigh, hlow, Word.ofBytes_hi_lo]
  exact BitVec.add_assoc s.pc 1 1

/-! ### The stack instructions and NOP -/

/-- Settles O39: the byte pushed is SR with the two bits set. -/
theorem phpPushesSrWithBreak : Obligations.PhpPushesSrWithBreak := fun _ _ s =>
  ⟨rfl, rfl, s.readSr ||| 0x30#8, exec_implied phpBody (fun _ => rfl) rfl rfl s,
    pushedSr_break s, pushedSr_unused s, fun _ => pushedSr_flag s⟩

theorem plp_flags (s : State) (v : Byte) :
    (s.setSr v).flag .unused = true ∧
      ∀ f, f ≠ .unused → (s.setSr v).flag f = v.getLsbD f.index.val :=
  ⟨flag_unused _, fun f hf => by rw [State.flag_setSr, if_neg hf]⟩

/-- Settles O40: one `Push` or one `Pop`. -/
theorem phaPlaPlpMoveThroughTheStack : Obligations.PhaPlaPlpMoveThroughTheStack := fun _ _ s =>
  ⟨⟨rfl, exec_implied phaBody (fun _ => rfl) rfl rfl s⟩,
    ⟨rfl, _, exec_implied plaBody (fun _ => rfl) rfl rfl s, rfl, setsNZ_of_sr rfl⟩,
    ⟨rfl, _, exec_implied plpBody (fun _ => rfl) rfl rfl s, rfl,
      plp_flags (s.setSp (s.sp + 1)) (s.readByte (stackAddr (s.sp + 1)))⟩⟩

/-- Settles O41: the body is the identity. -/
theorem nopOnlyCountsCycles : Obligations.NopOnlyCountsCycles := fun _ _ s =>
  ⟨rfl, exec_implied nopBody (fun _ => rfl) rfl rfl s⟩

/-! ### The trap -/

theorem takeTrap_sr (s : State) :
    s.takeTrap.sr = ((s.setFlag .brk true).setFlag .interruptDisable true).sr := rfl

theorem takeTrap_mem (s : State) :
    s.takeTrap.mem = ((s.pushWord (s.pc + 1)).push (s.readSr ||| 0x30#8)).mem := by
  rw [State.takeTrap_eq, readSr_or_break]
  rfl

/-- The pushes of the trap do not reach its vector. -/
theorem takeTrap_pc (s : State) :
    s.takeTrap.pc = Word.ofBytes (s.readByte 0xFFFF#16) (s.readByte 0xFFFE#16) := by
  have hout : ∀ a : Word, 512 ≤ a.toNat → Memory.read s.takeTrap.mem a = s.readByte a := by
    intro a ha
    rw [takeTrap_mem, State.push_mem, State.pushWord_eq]
    simp only [Memory.read_write_ne _ _ _ _ (ne_stackAddr ha _), State.readByte_eq]
  have hpc : s.takeTrap.pc = Memory.readWord s.takeTrap.mem brkVector := by
    rw [State.takeTrap_eq]
  rw [hpc, Memory.readWord, hout _ (by decide), hout _ (by decide)]
  rfl

theorem exec_brk (s : State) :
    exec .brk s = .next { s.takeTrap with cc := s.cc + Instr.brk.row.base } :=
  exec_implied brkBody (fun _ => rfl) rfl rfl s

theorem brk_flags {s t : State} (h : t.sr = s.takeTrap.sr) :
    t.flag .brk = true ∧ t.flag .interruptDisable = true ∧
      onlyFlags [.brk, .interruptDisable] s t := by
  obtain ⟨hi, honly⟩ := setsFlag_of_sr (by decide) (h.trans (takeTrap_sr s))
  exact ⟨(honly .brk (by decide)).trans (flag_setFlag_same s (by decide) true), hi,
    onlyFlags_trans (onlyFlags_setFlag s .brk true) honly⟩

/-- The trap in the words of rule R245: three slots from SP downward, PC from the vector. -/
theorem takeTrap_eq_slots (s : State) :
    s.takeTrap = { s with
      sp := s.sp - 3, sr := s.takeTrap.sr,
      pc := Word.ofBytes (s.readByte 0xFFFF#16) (s.readByte 0xFFFE#16),
      mem := Memory.write
        (Memory.write (Memory.write s.mem (stackAddr s.sp) (s.pc + 1).hi)
          (stackAddr (s.sp - 1)) (s.pc + 1).lo)
        (stackAddr (s.sp - 2)) (s.readSr ||| 0x30#8) } := by
  rw [← takeTrap_pc, ← sub_two_sub_one, ← sub_one_sub_one, ← readSr_or_break, State.takeTrap_eq]

/-- Settles O34: the trap in closed form, and the two flags it sets. -/
theorem brkTakesTheTrap : Obligations.BrkTakesTheTrap := fun _ _ s =>
  ⟨rfl, _, exec_brk s,
    congrArg (fun u : State => { u with cc := s.cc + Instr.brk.row.base }) (takeTrap_eq_slots s),
    brk_flags rfl⟩

theorem exec_rti (s : State) :
    exec .rti s = .next { s with
      sp := s.sp + 3, sr := s.returnFromTrap.sr, cc := s.cc + Instr.rti.row.base,
      pc := Word.ofBytes (s.readByte (stackAddr (s.sp + 3)))
        (s.readByte (stackAddr (s.sp + 2))) } := by
  rw [← add_two_add_one, ← add_one_add_one]
  exact exec_implied rtiBody (fun _ => rfl) rfl rfl s

/-- The return writes SR with bit 4 as it was. -/
theorem flag_of_rti {s t : State} (h : t.sr = s.returnFromTrap.sr) (f : Flag) :
    t.flag f = if f = .unused then true else
      ((s.readByte (stackAddr (s.sp + 1)) &&& 0xCF#8) ||| (s.readSr &&& 0x10#8) |||
        0x20#8).getLsbD f.index.val :=
  (State.flag_congr h f).trans (State.flag_setSr s.pop.1 _ f)

theorem rti_flags {s t : State} (h : t.sr = s.returnFromTrap.sr) :
    t.flag .brk = s.flag .brk ∧ t.flag .unused = true ∧
      ∀ f, f ≠ .brk → f ≠ .unused →
        t.flag f = (s.readByte (stackAddr (s.sp + 1))).getLsbD f.index.val := by
  refine ⟨?_, flag_unused t, fun f hb hu => ?_⟩
  · rw [flag_of_rti h]
    simp [State.flag, Flag.index]
  · rw [flag_of_rti h, if_neg hu]
    cases f with
    | brk => exact absurd rfl hb
    | unused => exact absurd rfl hu
    | _ => simp [Flag.index]

/-- Settles O35: one pop for SR, one word popped for PC. -/
theorem rtiReturnsFromTheTrap : Obligations.RtiReturnsFromTheTrap := fun _ _ s =>
  ⟨rfl, _, exec_rti s, rfl, rti_flags rfl⟩

theorem readByte_takeTrap {s : State} (hm : Memory.wf s.mem) (b : Word) :
    s.takeTrap.readByte b =
      if b = stackAddr (s.sp - 2) then s.readSr ||| 0x30#8
      else (s.pushWord (s.pc + 1)).readByte b := by
  rw [State.readByte, takeTrap_mem, ← State.readByte,
    readByte_push (s := s.pushWord (s.pc + 1)) _ _ (wf_push _ (wf_push _ hm)), ← sub_one_sub_one]
  rfl

/-- The three slots below the old SP after the trap. -/
theorem slots_of_takeTrap {s : State} (hm : Memory.wf s.mem) :
    s.takeTrap.readByte (stackAddr s.sp) = (s.pc + 1).hi ∧
      s.takeTrap.readByte (stackAddr (s.sp - 1)) = (s.pc + 1).lo ∧
      s.takeTrap.readByte (stackAddr (s.sp - 2)) = s.readSr ||| 0x30#8 := by
  have hhigh : stackAddr s.sp ≠ stackAddr (s.sp - 2) := mt stackAddr_inj.mp (by bv_omega)
  have hlow : stackAddr (s.sp - 1) ≠ stackAddr (s.sp - 2) := mt stackAddr_inj.mp (by bv_omega)
  refine ⟨?_, ?_, ?_⟩
  · rw [readByte_takeTrap hm, if_neg hhigh, readByte_pushWord_high _ hm]
  · rw [readByte_takeTrap hm, if_neg hlow, readByte_pushWord_low _ hm]
  · rw [readByte_takeTrap hm, if_pos rfl]

/-- Settles O42: the three slots that RTI reads are those that BRK wrote, and bit 4 of the byte for
SR, the one bit that BRK changed in it, is not read. -/
theorem brkThenRtiResumes : Obligations.BrkThenRtiResumes := by
  intro s t h hm hx hsp hb hslots
  obtain rfl := Host.Outcome.next.inj ((exec_brk s).symm.trans hx)
  obtain ⟨u, hu, heq, hbrk, hunused, hflags⟩ := (rtiReturnsFromTheTrap 0#8 0#8 h).2
  obtain ⟨hhigh, hlow, hstatus⟩ := slots_of_takeTrap hm
  replace hhigh := (hslots _ (by simp)).trans hhigh
  replace hlow := (hslots _ (by simp)).trans hlow
  replace hstatus := (hslots _ (by simp)).trans hstatus
  have hsp0 : h.sp = s.sp - 3 := hsp.trans (congrArg State.sp (takeTrap_eq_slots s))
  have hsp1 : h.sp + 1 = s.sp - 2 := by rw [hsp0]; bv_omega
  have hsp2 : h.sp + 2 = s.sp - 1 := by rw [hsp0]; bv_omega
  have hsp3 : h.sp + 3 = s.sp := by rw [hsp0]; bv_omega
  rw [hsp1, hstatus] at hflags
  rw [hsp3, hsp2, hhigh, hlow, Word.ofBytes_hi_lo] at heq
  have hcells : u.sp = s.sp ∧ u.pc = s.pc + 1 ∧ u.a = h.a ∧ u.x = h.x ∧ u.y = h.y ∧
      u.mem = h.mem ∧ u.cc = h.cc + Instr.rti.row.base := by
    rw [heq]
    exact ⟨rfl, rfl, rfl, rfl, rfl, rfl, rfl⟩
  obtain ⟨hback, hpc, hrest⟩ := hcells
  refine ⟨u, hu, hback, hpc, hbrk.trans hb, fun f hf => ?_, hrest⟩
  have hne : f ≠ .brk := by simpa using hf
  by_cases hu : f = .unused
  · rw [hu, hunused, flag_unused]
  · rw [hflags f hne hu, pushedSr_flag s hne hu]

end Sys2Proof.Proofs
end

section
/-! PROOFS of the families 10_state and 20_memory, the frames: which registers, flags and bytes an
instruction leaves as they were (spec/10_state.md rules R23 to R26, R39, spec/20_memory.md rules
R62, R63, spec/40_driver_and_modes.md rule R108). Each is one case split over the instructions,
grouped into those that write the cell and the rest. -/

namespace Sys2Proof.Proofs

open Sys2Proof.Machine Sys2Proof.Rule

/-! ### Registers -/

section
variable {i : Instr} {s t : State}

theorem exec_a_of_not_writesA (hm : i.row.mnemonic ∉ writesA) (hacc : i.row.mode ≠ .accumulator)
    (h : exec i s = .next t) : t.a = s.a := by
  cases i with
  | ldaImmediate | ldaZeroPage | ldaZeroPageX | ldaAbsolute | ldaAbsoluteX | ldaAbsoluteY
  | ldaIndirectX | ldaIndirectY | adcImmediate | adcZeroPage | adcZeroPageX | adcAbsolute
  | adcAbsoluteX | adcAbsoluteY | adcIndirectX | adcIndirectY | sbcImmediate | sbcZeroPage
  | sbcZeroPageX | sbcAbsolute | sbcAbsoluteX | sbcAbsoluteY | sbcIndirectX | sbcIndirectY
  | andImmediate | andZeroPage | andZeroPageX | andAbsolute | andAbsoluteX | andAbsoluteY
  | andIndirectX | andIndirectY | oraImmediate | oraZeroPage | oraZeroPageX | oraAbsolute
  | oraAbsoluteX | oraAbsoluteY | oraIndirectX | oraIndirectY | eorImmediate | eorZeroPage
  | eorZeroPageX | eorAbsolute | eorAbsoluteX | eorAbsoluteY | eorIndirectX | eorIndirectY
  | pla | txa | tya => simp [Instr.row, writesA] at hm
  | aslAccumulator | lsrAccumulator | rolAccumulator | rorAccumulator => exact absurd rfl hacc
  | bcc | bcs | beq | bne | bmi | bpl | bvc | bvs =>
    rw [exec_relative_eq rfl h]
  | _ => cases h; rfl

theorem exec_x_of_not_writesX (hm : i.row.mnemonic ∉ writesX) (h : exec i s = .next t) :
    t.x = s.x := by
  cases i with
  | ldxImmediate | ldxZeroPage | ldxZeroPageY | ldxAbsolute | ldxAbsoluteY
  | tax | tsx | inx | dex => simp [Instr.row, writesX] at hm
  | bcc | bcs | beq | bne | bmi | bpl | bvc | bvs =>
    rw [exec_relative_eq rfl h]
  | _ => cases h; rfl

theorem exec_y_of_not_writesY (hm : i.row.mnemonic ∉ writesY) (h : exec i s = .next t) :
    t.y = s.y := by
  cases i with
  | ldyImmediate | ldyZeroPage | ldyZeroPageX | ldyAbsolute | ldyAbsoluteX
  | tay | iny | dey => simp [Instr.row, writesY] at hm
  | bcc | bcs | beq | bne | bmi | bpl | bvc | bvs =>
    rw [exec_relative_eq rfl h]
  | _ => cases h; rfl

theorem exec_sp_of_not_writesSp (hm : i.row.mnemonic ∉ writesSp) (h : exec i s = .next t) :
    t.sp = s.sp := by
  cases i with
  | txs | brk | jsrAbsolute | rts | rti | pha | php | pla | plp =>
    simp [Instr.row, writesSp] at hm
  | bcc | bcs | beq | bne | bmi | bpl | bvc | bvs =>
    rw [exec_relative_eq rfl h]
  | _ => cases h; rfl

end

/-- Settles O59: one frame for each of the four registers. -/
theorem registerFrame : Obligations.RegisterFrame := fun _ _ _ h =>
  ⟨fun hm hacc => exec_a_of_not_writesA hm hacc h, fun hm => exec_x_of_not_writesX hm h,
    fun hm => exec_y_of_not_writesY hm h, fun hm => exec_sp_of_not_writesSp hm h⟩

/-! ### Memory -/

/-- What an instruction may do to memory: write one byte through its resolved operand, or push the
bytes of its mnemonic, none where it pushes nothing. -/
theorem exec_mem {i : Instr} {s t : State} (h : exec i s = .next t) :
    (i.row.mnemonic ∈ storesOperand ∧
        ∃ v, t.mem = (writeOp (resolve i.form s).op v s).mem) ∨
      ∃ pushed : List Byte, pushed.length = bytesPushed i.row.mnemonic ∧
        t.mem = (pushed.foldl State.push s).mem := by
  cases i with
  | staZeroPage | staZeroPageX | staAbsolute | staAbsoluteX | staAbsoluteY | staIndirectX
  | staIndirectY | stxZeroPage | stxZeroPageY | stxAbsolute | styZeroPage | styZeroPageX
  | styAbsolute | aslZeroPage | aslZeroPageX | aslAbsolute | aslAbsoluteX | lsrZeroPage
  | lsrZeroPageX | lsrAbsolute | lsrAbsoluteX | rolZeroPage | rolZeroPageX | rolAbsolute
  | rolAbsoluteX | rorZeroPage | rorZeroPageX | rorAbsolute | rorAbsoluteX | incZeroPage
  | incZeroPageX | incAbsolute | incAbsoluteX | decZeroPage | decZeroPageX | decAbsolute
  | decAbsoluteX =>
    cases h
    exact .inl ⟨by simp [Instr.row, storesOperand], _, rfl⟩
  | brk =>
    cases h
    exact .inr ⟨[(s.pc + 1).hi, (s.pc + 1).lo, s.readSr ||| 0x30#8], rfl, takeTrap_mem s⟩
  | jsrAbsolute => cases h; exact .inr ⟨[(s.pc + 1).hi, (s.pc + 1).lo], rfl, rfl⟩
  | pha => cases h; exact .inr ⟨[s.a], rfl, rfl⟩
  | php => cases h; exact .inr ⟨[s.readSr ||| 0x30#8], rfl, rfl⟩
  | bcc | bcs | beq | bne | bmi | bpl | bvc | bvs =>
    exact .inr ⟨[], rfl, by rw [exec_relative_eq rfl h]; rfl⟩
  | _ => cases h; exact .inr ⟨[], rfl, rfl⟩

theorem readByte_foldl_push (pushed : List Byte) (s : State) {b : Word}
    (hb : b ∉ pushedSlots s.sp pushed.length) :
    (pushed.foldl State.push s).readByte b = s.readByte b := by
  induction pushed generalizing s with
  | nil => rfl
  | cons v pushed ih =>
    obtain ⟨hne, hrest⟩ : b ≠ stackAddr s.sp ∧ b ∉ pushedSlots (s.sp - 1) pushed.length := by
      simpa [pushedSlots] using hb
    exact (ih (s.push v) hrest).trans (Memory.read_write_ne _ _ _ _ hne)

theorem readByte_writeOp {op : Op} {b : Word} (h : op ≠ .addr b) (v : Byte) (s : State) :
    (writeOp op v s).readByte b = s.readByte b := by
  cases op with
  | addr a => exact Memory.read_write_ne _ _ _ _ fun e => h (e ▸ rfl)
  | _ => rfl

theorem resolve_op_of_accumulator {i : Instr} (h : i.row.mode = .accumulator) (s : State) :
    (resolve i.form s).op = .acc := by
  rw [← form_mode_eq_row_mode] at h
  cases hf : i.form with
  | accumulator => rfl
  | _ => rw [hf] at h; cases h

/-- Settles O60: a byte is changed by a write through the operand or by a push, and each is at an
address the statement leaves out. -/
theorem memoryFrame : Obligations.MemoryFrame := by
  intro i s t h
  obtain ⟨hm, v, hmem⟩ | ⟨pushed, hlen, hmem⟩ := exec_mem h
  · refine ⟨fun b hb _ => ?_, fun hcell _ => ?_⟩
    · rw [State.readByte, hmem]
      exact readByte_writeOp (fun e => hb ⟨hm, e⟩) v s
    · have hacc := hcell.resolve_left (not_not_intro hm)
      rw [hmem, resolve_op_of_accumulator hacc]
      rfl
  · refine ⟨fun b _ hb => ?_, fun _ hzero => ?_⟩
    · rw [State.readByte, hmem]
      exact readByte_foldl_push pushed s (hlen ▸ hb)
    · rw [hzero, List.length_eq_zero_iff] at hlen
      rw [hmem, hlen]
      rfl

/-! ### Flags -/

theorem onlyFlags_mono {fs gs : List Flag} {s t : State} (h : onlyFlags fs s t) (hsub : fs ⊆ gs) :
    onlyFlags gs s t := fun f hf => h f fun hmem => hf (hsub hmem)

section
variable {s t : State}

theorem onlyFlags_nz {v : Byte} (h : t.sr = (s.setNZ v).sr) : onlyFlags [.negative, .zero] s t :=
  onlyFlags_mono (setsNZ_of_sr h).2 (by simp)

theorem onlyFlags_carryNZ {c : Bool} {v : Byte} (h : t.sr = ((s.setFlag .carry c).setNZ v).sr) :
    onlyFlags [.negative, .zero, .carry] s t := by
  obtain ⟨-, -, honly⟩ := setsCarryNZ_of_sr h
  exact onlyFlags_mono honly (by simp)

theorem onlyFlags_adcBody {v : Byte} (h : t.sr = (adcBody v s).sr) :
    onlyFlags [.negative, .overflow, .zero, .carry] s t := by
  obtain ⟨-, -, -, -, honly⟩ := adcBody_flags h
  exact onlyFlags_mono honly (by simp)

theorem onlyFlags_takeTrap (h : t.sr = s.takeTrap.sr) :
    onlyFlags [.brk, .interruptDisable] s t := by
  obtain ⟨-, -, honly⟩ := brk_flags h
  exact honly

/-- The one flag left out reads 1 in every state. -/
theorem onlyFlags_all_but_unused :
    onlyFlags [.negative, .overflow, .brk, .decimal, .interruptDisable, .zero, .carry] s t := by
  intro f hf
  cases f with
  | unused => rw [flag_unused, flag_unused]
  | _ => simp at hf

theorem onlyFlags_returnFromTrap (h : t.sr = s.returnFromTrap.sr) :
    onlyFlags [.negative, .overflow, .decimal, .interruptDisable, .zero, .carry] s t := by
  intro f hf
  cases f with
  | unused => rw [flag_unused, flag_unused]
  | brk => exact (rti_flags h).1
  | _ => simp at hf

theorem onlyFlags_bitBody {v : Byte} (h : t.sr = (bitBody v s).sr) :
    onlyFlags [.negative, .overflow, .zero] s t := by
  obtain ⟨-, -, -, honly⟩ := bitBody_flags h
  exact onlyFlags_mono honly (by simp)

end

/-- Settles O58: each group of instructions writes its flags as one body does, and the rest write
none. -/
theorem flagFrame : Obligations.FlagFrame := by
  intro i s t h
  cases i with
  | adcImmediate | adcZeroPage | adcZeroPageX | adcAbsolute | adcAbsoluteX | adcAbsoluteY
  | adcIndirectX | adcIndirectY | sbcImmediate | sbcZeroPage | sbcZeroPageX | sbcAbsolute
  | sbcAbsoluteX | sbcAbsoluteY | sbcIndirectX | sbcIndirectY =>
    cases h; exact onlyFlags_adcBody rfl
  | ldaImmediate | ldaZeroPage | ldaZeroPageX | ldaAbsolute | ldaAbsoluteX | ldaAbsoluteY
  | ldaIndirectX | ldaIndirectY | ldxImmediate | ldxZeroPage | ldxZeroPageY | ldxAbsolute
  | ldxAbsoluteY | ldyImmediate | ldyZeroPage | ldyZeroPageX | ldyAbsolute | ldyAbsoluteX
  | andImmediate | andZeroPage | andZeroPageX | andAbsolute | andAbsoluteX | andAbsoluteY
  | andIndirectX | andIndirectY | oraImmediate | oraZeroPage | oraZeroPageX | oraAbsolute
  | oraAbsoluteX | oraAbsoluteY | oraIndirectX | oraIndirectY | eorImmediate | eorZeroPage
  | eorZeroPageX | eorAbsolute | eorAbsoluteX | eorAbsoluteY | eorIndirectX | eorIndirectY
  | incZeroPage | incZeroPageX | incAbsolute | incAbsoluteX | decZeroPage | decZeroPageX
  | decAbsolute | decAbsoluteX | inx | iny | dex | dey | tax | tay | txa | tya | tsx | pla =>
    cases h; exact onlyFlags_nz rfl
  | aslAccumulator | aslZeroPage | aslZeroPageX | aslAbsolute | aslAbsoluteX | lsrAccumulator
  | lsrZeroPage | lsrZeroPageX | lsrAbsolute | lsrAbsoluteX | rolAccumulator | rolZeroPage
  | rolZeroPageX | rolAbsolute | rolAbsoluteX | rorAccumulator | rorZeroPage | rorZeroPageX
  | rorAbsolute | rorAbsoluteX | cmpImmediate | cmpZeroPage | cmpZeroPageX | cmpAbsolute
  | cmpAbsoluteX | cmpAbsoluteY | cmpIndirectX | cmpIndirectY | cpxImmediate | cpxZeroPage
  | cpxAbsolute | cpyImmediate | cpyZeroPage | cpyAbsolute =>
    cases h; exact onlyFlags_carryNZ rfl
  | bitZeroPage | bitAbsolute => cases h; exact onlyFlags_bitBody rfl
  | clc | sec | cld | sed | cli | sei | clv => cases h; exact onlyFlags_setFlag s _ _
  | brk => cases h; exact onlyFlags_takeTrap rfl
  | plp => cases h; exact onlyFlags_all_but_unused
  | rti => cases h; exact onlyFlags_returnFromTrap rfl
  | bcc | bcs | beq | bne | bmi | bpl | bvc | bvs =>
    rw [exec_relative_eq rfl h]; exact fun _ _ => rfl
  | _ => cases h; exact fun _ _ => rfl

end Sys2Proof.Proofs
end
